-- ==== Sys2Proof/Word.lean ====
section
/-! DEFINITION. The word types of the unit: 8-bit vectors and IDs, 32-bit registers, the 64-bit MSR data word,
the 256-bit ISR, TMR and IRR quantities, the page number of the MMIO page. -/

namespace Sys2Proof

/-- 8 bits: an interrupt vector, a local xAPIC ID, the TPR's existing bits. -/
abbrev Byte := BitVec 8

/-- 32 bits: a register of the unit (10_state.md R28), an MSR address, a core register. -/
abbrev W32 := BitVec 32

/-- 64 bits: the MSR data word (10_state.md R20, R28), a physical address. -/
abbrev W64 := BitVec 64

/-- 256 bits: ISR, TMR, IRR, one bit per vector (10_state.md R38 to R40). -/
abbrev Bits256 := BitVec 256

/-- Bits 63:12 of a physical address (20_memory.md R82: the page is 4 KBytes). -/
abbrev PageNo := BitVec 52

end Sys2Proof
end

