-- ==== Sys2Proof/Config.lean ====
section
/-! DEFINITION. What an implementation fixes (00_scope.md R5) and the free values (`draw` of 00_scope.md R10).
The parameters are carried by each unit as `hw`, so that a statement over all states covers every value of them.
What a unit's parameters are at reset is built here from opaque constants, which nothing can evaluate. -/

namespace Sys2Proof

/-- What a 1 written to a read-only status bit of an LVT register does (41_msr_access.md R180). -/
inductive RoBitWrite where
  /-- The written 1 is discarded. -/
  | ignore
  /-- The write raises GP(0). -/
  | fault
deriving DecidableEq, Repr, Inhabited

/-- One existing level of `Cpuid0B` (44_cpuid.md R322): its number and the existing fields of EAX, EBX and
ECX[15:8]. -/
structure CpuidLevel where
  /-- The level number, which is the sub-leaf that reports it. -/
  number : W32
  /-- EAX[4:0]: how far to shift the x2APIC ID right for the next level's ID. -/
  shift : BitVec 5
  /-- EBX[15:0]: logical processors at this level. -/
  count : BitVec 16
  /-- ECX[15:8]: the level type (1 SMT, 2 core). -/
  kind : Byte
deriving DecidableEq, Repr, Inhabited

/-- `RSVD[reg]` of every register that a rule gives a mask for (00_scope.md R5; 92_eei_decisions.md D8): bits 31:0 of
the mask. Bits 63:32 are no parameter: they are reserved for every register but the ICR (41_msr_access.md R177), whose
upper half is the destination ID (10_state.md R43). The masks of EOI and ESR are no parameter either: only zero may be
written there (10_state.md R34, R41). -/
structure RsvdMasks where
  /-- `RSVD[TPR]` (10_state.md R32). -/
  tpr : W32
  /-- `RSVD[SVR]` (10_state.md R37). Without `DIRECTED_EOI` bit 12 is reserved as well. -/
  svr : W32
  /-- `RSVD[ICR]` (10_state.md R43). -/
  icr : W32
  /-- `RSVD[LVT_TIMER]` (10_state.md R44). -/
  lvtTimer : W32
  /-- `RSVD[LVT_THERMAL]` (10_state.md R45). -/
  lvtThermal : W32
  /-- `RSVD[LVT_PMR]` (10_state.md R46). -/
  lvtPmr : W32
  /-- `RSVD[LVT_LINT0]` (10_state.md R47). -/
  lvtLint0 : W32
  /-- `RSVD[LVT_LINT1]` (10_state.md R48). -/
  lvtLint1 : W32
  /-- `RSVD[LVT_ERROR]` (10_state.md R49). -/
  lvtError : W32
  /-- The mask of LVT_CMCI, which has the layout of R45 (10_state.md R42). -/
  lvtCmci : W32
  /-- `RSVD[TIMER_ICR]` (10_state.md R50). -/
  timerIcr : W32
  /-- `RSVD[TIMER_DCR]` (10_state.md R52). -/
  timerDcr : W32
  /-- `RSVD[SELF_IPI]` (10_state.md R53). -/
  selfIpi : W32
deriving DecidableEq, Repr, Inhabited

/-- The three 256-bit quantities that the interrupt logic works on (10_state.md R38 to R40). -/
structure IntrRegs where
  /-- IRR. -/
  irr : Bits256
  /-- ISR. -/
  isr : Bits256
  /-- TMR. -/
  tmr : Bits256
deriving DecidableEq, Repr, Inhabited

/-- `IntrLogic`, the record of functions of 00_scope.md R5: acceptance, priority and dispatch (60_exceptions.md R351,
R352 to R357). The default is `Machine.standardLogic`. -/
structure IntrLogic where
  /-- `accept(vec, trig)`, `true` being level (60_exceptions.md R352). -/
  accept : Byte → Bool → IntrRegs → IntrRegs
  /-- Dispatch of a vector to the core (60_exceptions.md R353). -/
  dispatch : Byte → IntrRegs → IntrRegs
  /-- `ppr()`, from TPR and ISR; the truth value is free where a rule leaves a choice (60_exceptions.md R355). -/
  ppr : Bool → Byte → Bits256 → Byte
  /-- The vector offered to the core, from TPR (60_exceptions.md R356). -/
  offered : Byte → IntrRegs → Option Byte
  /-- `eoi()`: the truth value says that a broadcast is suppressed; the vector whose EOI is broadcast, if any
  (60_exceptions.md R357). -/
  eoi : Bool → IntrRegs → IntrRegs × Option Byte
deriving Inhabited

/-- Which `IntrLogic` a unit has: functions are no plain data, so a unit holds a name of its logic. -/
inductive LogicChoice where
  /-- The marked default (60_exceptions.md R351 to R357; 92_eei_decisions.md D16). -/
  | standard
  /-- Another one, of which nothing is known: `Config.otherLogic n`. -/
  | other (n : Nat)
deriving DecidableEq, Repr, Inhabited

/-- The parameters of one unit (00_scope.md R5; 10_state.md R42; 41_msr_access.md R180). No step changes them
(10_state.md R76). -/
structure Params where
  /-- `X2APIC_SUPPORTED`. -/
  x2apicSupported : Bool
  /-- `X2APIC_ID_HW`. -/
  x2apicIdHw : W32
  /-- `ID_BITS`. -/
  idBits : Nat
  /-- `VERSION`. -/
  version : Byte
  /-- `MAX_LVT`. -/
  maxLvt : Byte
  /-- `DIRECTED_EOI`. -/
  directedEoi : Bool
  /-- `HAS_LVT_CMCI`. -/
  hasLvtCmci : Bool
  /-- `RSVD[reg]`. -/
  rsvd : RsvdMasks
  /-- `RO_BIT_WRITE`. -/
  roBitWrite : RoBitWrite
  /-- `MAXPHYADDR`. -/
  maxPhyAddr : Nat
  /-- `IS_BSP`. -/
  isBsp : Bool
  /-- `IntrLogic`. -/
  logic : LogicChoice
  /-- `Cpuid0B`: the levels that exist, by rising level number (notes/assumptions/4.md). -/
  cpuid0B : List CpuidLevel
deriving DecidableEq, Repr, Inhabited

namespace Config

/-- The free values: the n-th `draw` of a run (00_scope.md R10). Nothing is known of any of them. -/
opaque free : Nat → W64

/-- `X2APIC_ID_HW` of the unit that acts first, before the constraint of 10_state.md R30. -/
opaque x2apicIdRaw : W32

/-- `X2APIC_ID_HW` of the platform's other units, as many as the list has entries, before the constraints of
10_state.md R30 and 60_exceptions.md R372. -/
opaque otherIdsRaw : List W32

/-- `VERSION` of each unit. -/
opaque version : Nat → Byte

/-- `DIRECTED_EOI` of each unit. -/
opaque directedEoi : Nat → Bool

/-- By how much `MAXPHYADDR` exceeds 32, before it is bounded. -/
opaque phyAddrAbove32 : Nat

/-- `IS_BSP` of each unit. -/
opaque isBsp : Nat → Bool

/-- `Cpuid0B` of each unit, before the constraints of 44_cpuid.md R322. -/
opaque cpuidLevelsRaw : Nat → List CpuidLevel

/-- The interrupt logics that are not the default (60_exceptions.md R351). -/
opaque otherLogic : Nat → IntrLogic

/-- Whether a RDMSR of an MSR outside this spec (30_encoding.md R117) raises GP(0). -/
opaque otherMsrReadFaults : W32 → Bool

/-- Whether a WRMSR of this value to an MSR outside this spec (30_encoding.md R117) raises GP(0). -/
opaque otherMsrWriteFaults : W32 → W64 → Bool

/-- FFFF_FFFFH is never a unit's ID (10_state.md R30). -/
def assignableId (v : W32) : W32 := if v = 0xFFFFFFFF#32 then 0#32 else v

/-- The x2APIC ID of the unit that acts first. -/
def firstId : W32 := assignableId x2apicIdRaw

/-- The x2APIC IDs of the other units: assignable, and unique across the platform (60_exceptions.md R372). -/
def otherIds : List W32 := (otherIdsRaw.filter fun v => v != 0xFFFFFFFF#32 && v != firstId).dedup

/-- Levels by rising number, their shift counts not decreasing, level 0 of type 1, SMT, every other of type 1 or 2,
core (44_cpuid.md R322; notes/assumptions/4.md): an entry whose number is below `least` is left out, a shift count
below `shift` is raised to it, another type than 1 becomes 2. -/
def risingLevels (least : Nat) (shift : BitVec 5) : List CpuidLevel → List CpuidLevel
  | [] => []
  | l :: ls =>
    if l.number.toNat < least then risingLevels least shift ls
    else
      let count := if l.shift < shift then shift else l.shift
      let kind := if l.number = 0#32 ∨ l.kind = 1#8 then 1#8 else 2#8
      { l with shift := count, kind := kind } :: risingLevels (l.number.toNat + 1) count ls

/-- The shift count of the last level is at least 4 (44_cpuid.md R322). -/
def wideLast : List CpuidLevel → List CpuidLevel
  | [] => []
  | [l] => [{ l with shift := if l.shift < 4#5 then 4#5 else l.shift }]
  | a :: b :: ls => a :: wideLast (b :: ls)

/-- The default masks `RSVD[reg]` (10_state.md R32, R37, R43 to R50, R52, R53). -/
def defaultRsvd : RsvdMasks where
  tpr := 0xFFFFFF00#32
  svr := 0xFFFFEE00#32
  icr := 0xFFF33000#32
  lvtTimer := 0xFFFCEF00#32
  lvtThermal := 0xFFFEE800#32
  lvtPmr := 0xFFFEE800#32
  lvtLint0 := 0xFFFE0800#32
  lvtLint1 := 0xFFFE0800#32
  lvtError := 0xFFFEEF00#32
  lvtCmci := 0xFFFEE800#32
  timerIcr := 0x00000000#32
  timerDcr := 0xFFFFFFF4#32
  selfIpi := 0xFFFFFF00#32

/-- The parameters of the n-th unit of the platform at reset, whose x2APIC ID is `id`: the spec's default where it
states one (00_scope.md R5, 92_eei_decisions.md D3, D8, D16, D18), an opaque constant elsewhere. -/
def unitParams (n : Nat) (id : W32) : Params where
  x2apicSupported := true
  x2apicIdHw := id
  idBits := 32
  version := version n
  maxLvt := 5#8
  directedEoi := directedEoi n
  hasLvtCmci := false
  rsvd := defaultRsvd
  roBitWrite := .ignore
  maxPhyAddr := 32 + phyAddrAbove32 % 33
  isBsp := isBsp n
  logic := .standard
  cpuid0B := wideLast (risingLevels 0 0#5 (cpuidLevelsRaw n))

end Config

end Sys2Proof
end

