-- ==== Sys2Proof/Syntax.lean ====
section
/-! DEFINITION. The operations of the unit: `Access`, an operation as it reaches the unit in one of the five formats
of 30_encoding.md R110 to R115, and `Instr`, one constructor per row of spec/opcode_table.json. -/

namespace Sys2Proof

/-- An access operation as it is issued, before it is decoded: its format, its address operand, its data operand. -/
inductive Access where
  /-- Format MSR-R, `RDMSR addr` (R111). -/
  | msrR (addr : W32)
  /-- Format MSR-W, `WRMSR addr, val` (R112). -/
  | msrW (addr : W32) (val : W64)
  /-- Format MMIO-R, a load of `width` bytes from physical address `pa` (R113). -/
  | mmioR (pa : W64) (width : Nat)
  /-- Format MMIO-W, a store of `width` bytes to physical address `pa` (R113). -/
  | mmioW (pa : W64) (width : Nat) (val : W32)
  /-- Format CPUID (R114). -/
  | cpuid (leaf subleaf : W32)
  /-- Format x86: the bytes of a core instruction, first byte first (R115). -/
  | x86 (bytes : List Byte)
deriving DecidableEq, Repr

/-- The operations, one constructor per row of the opcode table, in the table's order; the comment names the row's
rule. `val` is the data operand of a write, `page` bits 63:12 of the physical address of an MMIO access, `k` the index
of a banked register, `off` the MSR offset and `slot` the MMIO offset divided by 16 of a reserved address. -/
inductive Instr where
  | rdmsrIa32ApicBase  -- R141
  | wrmsrIa32ApicBase (val : W64)  -- R142
  | rdmsrId  -- R200
  | wrmsrId (val : W64)  -- R201
  | rdmsrVer  -- R202
  | wrmsrVer (val : W64)  -- R203
  | rdmsrTpr  -- R210
  | wrmsrTpr (val : W64)  -- R211
  | rdmsrPpr  -- R215
  | wrmsrPpr (val : W64)  -- R216
  | rdmsrEoi  -- R220
  | wrmsrEoi (val : W64)  -- R221
  | rdmsrLdr  -- R230
  | wrmsrLdr (val : W64)  -- R232
  | rdmsrSvr  -- R235
  | wrmsrSvr (val : W64)  -- R236
  | rdmsrEsr  -- R250
  | wrmsrEsr (val : W64)  -- R251
  | rdmsrIcr  -- R261
  | wrmsrIcr (val : W64)  -- R262
  | rdmsrLvtTimer  -- R271
  | wrmsrLvtTimer (val : W64)  -- R272
  | rdmsrLvtThermal  -- R273
  | wrmsrLvtThermal (val : W64)  -- R274
  | rdmsrLvtPmr  -- R275
  | wrmsrLvtPmr (val : W64)  -- R276
  | rdmsrLvtLint0  -- R277
  | wrmsrLvtLint0 (val : W64)  -- R278
  | rdmsrLvtLint1  -- R279
  | wrmsrLvtLint1 (val : W64)  -- R280
  | rdmsrLvtError  -- R281
  | wrmsrLvtError (val : W64)  -- R282
  | rdmsrTimerIcr  -- R283
  | wrmsrTimerIcr (val : W64)  -- R284
  | rdmsrTimerCcr  -- R285
  | wrmsrTimerCcr (val : W64)  -- R286
  | rdmsrTimerDcr  -- R288
  | wrmsrTimerDcr (val : W64)  -- R289
  | rdmsrSelfIpi  -- R300
  | wrmsrSelfIpi (val : W64)  -- R301
  | rdmsrIsrk (k : BitVec 3)  -- R240
  | wrmsrIsrk (k : BitVec 3) (val : W64)  -- R241
  | rdmsrTmrk (k : BitVec 3)  -- R242
  | wrmsrTmrk (k : BitVec 3) (val : W64)  -- R243
  | rdmsrIrrk (k : BitVec 3)  -- R244
  | wrmsrIrrk (k : BitVec 3) (val : W64)  -- R245
  | rdmsrReserved800  -- R205
  | wrmsrReserved800 (val : W64)  -- R205
  | rdmsrReserved801  -- R205
  | wrmsrReserved801 (val : W64)  -- R205
  | rdmsrReserved804  -- R205
  | wrmsrReserved804 (val : W64)  -- R205
  | rdmsrReserved805  -- R205
  | wrmsrReserved805 (val : W64)  -- R205
  | rdmsrReserved806  -- R205
  | wrmsrReserved806 (val : W64)  -- R205
  | rdmsrReserved807  -- R205
  | wrmsrReserved807 (val : W64)  -- R205
  | rdmsrReserved809  -- R225
  | wrmsrReserved809 (val : W64)  -- R225
  | rdmsrReserved80C  -- R225
  | wrmsrReserved80C (val : W64)  -- R225
  | rdmsrReserved80E  -- R233
  | wrmsrReserved80E (val : W64)  -- R233
  | rdmsrReserved829  -- R255
  | wrmsrReserved829 (val : W64)  -- R255
  | rdmsrReserved82A  -- R255
  | wrmsrReserved82A (val : W64)  -- R255
  | rdmsrReserved82B  -- R255
  | wrmsrReserved82B (val : W64)  -- R255
  | rdmsrReserved82C  -- R255
  | wrmsrReserved82C (val : W64)  -- R255
  | rdmsrReserved82D  -- R255
  | wrmsrReserved82D (val : W64)  -- R255
  | rdmsrReserved82E  -- R255
  | wrmsrReserved82E (val : W64)  -- R255
  | rdmsrReserved82F  -- R255
  | wrmsrReserved82F (val : W64)  -- R255
  | rdmsrReserved831  -- R270
  | wrmsrReserved831 (val : W64)  -- R270
  | rdmsrReserved83A  -- R287
  | wrmsrReserved83A (val : W64)  -- R287
  | rdmsrReserved83B  -- R287
  | wrmsrReserved83B (val : W64)  -- R287
  | rdmsrReserved83C  -- R287
  | wrmsrReserved83C (val : W64)  -- R287
  | rdmsrReserved83D  -- R287
  | wrmsrReserved83D (val : W64)  -- R287
  | rdmsrReserved (off : BitVec 10)  -- R305
  | wrmsrReserved (off : BitVec 10) (val : W64)  -- R305
  | loadId (page : PageNo)  -- R190
  | storeId (page : PageNo) (val : W32)  -- R191
  | loadVer (page : PageNo)  -- R190
  | storeVer (page : PageNo) (val : W32)  -- R191
  | loadTpr (page : PageNo)  -- R190
  | storeTpr (page : PageNo) (val : W32)  -- R191
  | loadApr (page : PageNo)  -- R190
  | storeApr (page : PageNo) (val : W32)  -- R191
  | loadPpr (page : PageNo)  -- R190
  | storePpr (page : PageNo) (val : W32)  -- R191
  | loadEoi (page : PageNo)  -- R190
  | storeEoi (page : PageNo) (val : W32)  -- R191
  | loadRrr (page : PageNo)  -- R190
  | storeRrr (page : PageNo) (val : W32)  -- R191
  | loadLdr (page : PageNo)  -- R190
  | storeLdr (page : PageNo) (val : W32)  -- R191
  | loadDfr (page : PageNo)  -- R190
  | storeDfr (page : PageNo) (val : W32)  -- R191
  | loadSvr (page : PageNo)  -- R190
  | storeSvr (page : PageNo) (val : W32)  -- R191
  | loadEsr (page : PageNo)  -- R190
  | storeEsr (page : PageNo) (val : W32)  -- R191
  | loadLvtTimer (page : PageNo)  -- R190
  | storeLvtTimer (page : PageNo) (val : W32)  -- R191
  | loadLvtThermal (page : PageNo)  -- R190
  | storeLvtThermal (page : PageNo) (val : W32)  -- R191
  | loadLvtPmr (page : PageNo)  -- R190
  | storeLvtPmr (page : PageNo) (val : W32)  -- R191
  | loadLvtLint0 (page : PageNo)  -- R190
  | storeLvtLint0 (page : PageNo) (val : W32)  -- R191
  | loadLvtLint1 (page : PageNo)  -- R190
  | storeLvtLint1 (page : PageNo) (val : W32)  -- R191
  | loadLvtError (page : PageNo)  -- R190
  | storeLvtError (page : PageNo) (val : W32)  -- R191
  | loadTimerIcr (page : PageNo)  -- R190
  | storeTimerIcr (page : PageNo) (val : W32)  -- R191
  | loadTimerCcr (page : PageNo)  -- R190
  | storeTimerCcr (page : PageNo) (val : W32)  -- R191
  | loadTimerDcr (page : PageNo)  -- R190
  | storeTimerDcr (page : PageNo) (val : W32)  -- R191
  | loadIsrk (page : PageNo) (k : BitVec 3)  -- R190
  | storeIsrk (page : PageNo) (k : BitVec 3) (val : W32)  -- R191
  | loadTmrk (page : PageNo) (k : BitVec 3)  -- R190
  | storeTmrk (page : PageNo) (k : BitVec 3) (val : W32)  -- R191
  | loadIrrk (page : PageNo) (k : BitVec 3)  -- R190
  | storeIrrk (page : PageNo) (k : BitVec 3) (val : W32)  -- R191
  | loadIcrLo (page : PageNo)  -- R190
  | storeIcrLo (page : PageNo) (val : W32)  -- R192
  | loadIcrHi (page : PageNo)  -- R190
  | storeIcrHi (page : PageNo) (val : W32)  -- R192
  | loadReserved (page : PageNo) (slot : Byte)  -- R190
  | storeReserved (page : PageNo) (slot : Byte) (val : W32)  -- R191
  | cpuid01h (subleaf : W32)  -- R321
  | cpuid0bh (subleaf : W32)  -- R322
  | x86Rdmsr  -- R115
  | x86Wrmsr  -- R115
  | x86Cpuid  -- R115
deriving DecidableEq, Repr

end Sys2Proof
end

