-- ==== Sys2Proof/WellFormed.lean ====
section
/-! DEFINITION. Well-formedness: of an operation (a term of a default row stands for an address no other row names,
30_encoding.md R117) and of a unit's parameters (the constraints 00_scope.md R5, 10_state.md R30 and 44_cpuid.md R322
put on them). -/

namespace Sys2Proof

/-- An MSR offset of the default rows `RDMSR.reserved`, `WRMSR.reserved`: 040H to 3FFH (30_encoding.md R118). -/
def isDefaultMsrOffset (off : BitVec 10) : Bool := 0x40 ≤ off.toNat

/-- A slot (MMIO offset divided by 16) of the default rows `LOAD.reserved`, `STORE.reserved`: no other row has it
(10_state.md R26; 30_encoding.md R117), the slots 40H to FFH above the table among them (notes/assumptions/21.md). -/
def isReservedSlot (slot : Byte) : Bool :=
  let n := slot.toNat
  n ≤ 0x01 || (0x04 ≤ n && n ≤ 0x07) || (0x29 ≤ n && n ≤ 0x2F) || (0x3A ≤ n && n ≤ 0x3D) || 0x3F ≤ n

/-- An operation is well formed when its operands are ones its row's encoding admits. -/
def Instr.wf : Instr → Bool
  | .rdmsrReserved off => isDefaultMsrOffset off
  | .wrmsrReserved off _ => isDefaultMsrOffset off
  | .loadReserved _ slot => isReservedSlot slot
  | .storeReserved _ slot _ => isReservedSlot slot
  | .rdmsrIa32ApicBase | .wrmsrIa32ApicBase _ | .rdmsrId | .wrmsrId _ | .rdmsrVer | .wrmsrVer _ | .rdmsrTpr
  | .wrmsrTpr _ | .rdmsrPpr | .wrmsrPpr _ | .rdmsrEoi | .wrmsrEoi _ | .rdmsrLdr | .wrmsrLdr _ | .rdmsrSvr
  | .wrmsrSvr _ | .rdmsrEsr | .wrmsrEsr _ | .rdmsrIcr | .wrmsrIcr _ | .rdmsrLvtTimer | .wrmsrLvtTimer _
  | .rdmsrLvtThermal | .wrmsrLvtThermal _ | .rdmsrLvtPmr | .wrmsrLvtPmr _ | .rdmsrLvtLint0 | .wrmsrLvtLint0 _
  | .rdmsrLvtLint1 | .wrmsrLvtLint1 _ | .rdmsrLvtError | .wrmsrLvtError _ | .rdmsrTimerIcr | .wrmsrTimerIcr _
  | .rdmsrTimerCcr | .wrmsrTimerCcr _ | .rdmsrTimerDcr | .wrmsrTimerDcr _ | .rdmsrSelfIpi | .wrmsrSelfIpi _
  | .rdmsrIsrk _ | .wrmsrIsrk _ _ | .rdmsrTmrk _ | .wrmsrTmrk _ _ | .rdmsrIrrk _ | .wrmsrIrrk _ _
  | .rdmsrReserved800 | .wrmsrReserved800 _ | .rdmsrReserved801 | .wrmsrReserved801 _ | .rdmsrReserved804
  | .wrmsrReserved804 _ | .rdmsrReserved805 | .wrmsrReserved805 _ | .rdmsrReserved806 | .wrmsrReserved806 _
  | .rdmsrReserved807 | .wrmsrReserved807 _ | .rdmsrReserved809 | .wrmsrReserved809 _ | .rdmsrReserved80C
  | .wrmsrReserved80C _ | .rdmsrReserved80E | .wrmsrReserved80E _ | .rdmsrReserved829 | .wrmsrReserved829 _
  | .rdmsrReserved82A | .wrmsrReserved82A _ | .rdmsrReserved82B | .wrmsrReserved82B _ | .rdmsrReserved82C
  | .wrmsrReserved82C _ | .rdmsrReserved82D | .wrmsrReserved82D _ | .rdmsrReserved82E | .wrmsrReserved82E _
  | .rdmsrReserved82F | .wrmsrReserved82F _ | .rdmsrReserved831 | .wrmsrReserved831 _ | .rdmsrReserved83A
  | .wrmsrReserved83A _ | .rdmsrReserved83B | .wrmsrReserved83B _ | .rdmsrReserved83C | .wrmsrReserved83C _
  | .rdmsrReserved83D | .wrmsrReserved83D _ | .loadId _ | .storeId _ _ | .loadVer _ | .storeVer _ _ | .loadTpr _
  | .storeTpr _ _ | .loadApr _ | .storeApr _ _ | .loadPpr _ | .storePpr _ _ | .loadEoi _ | .storeEoi _ _
  | .loadRrr _ | .storeRrr _ _ | .loadLdr _ | .storeLdr _ _ | .loadDfr _ | .storeDfr _ _ | .loadSvr _
  | .storeSvr _ _ | .loadEsr _ | .storeEsr _ _ | .loadLvtTimer _ | .storeLvtTimer _ _ | .loadLvtThermal _
  | .storeLvtThermal _ _ | .loadLvtPmr _ | .storeLvtPmr _ _ | .loadLvtLint0 _ | .storeLvtLint0 _ _
  | .loadLvtLint1 _ | .storeLvtLint1 _ _ | .loadLvtError _ | .storeLvtError _ _ | .loadTimerIcr _
  | .storeTimerIcr _ _ | .loadTimerCcr _ | .storeTimerCcr _ _ | .loadTimerDcr _ | .storeTimerDcr _ _
  | .loadIsrk _ _ | .storeIsrk _ _ _ | .loadTmrk _ _ | .storeTmrk _ _ _ | .loadIrrk _ _ | .storeIrrk _ _ _
  | .loadIcrLo _ | .storeIcrLo _ _ | .loadIcrHi _ | .storeIcrHi _ _ | .cpuid01h _ | .cpuid0bh _ | .x86Rdmsr
  | .x86Wrmsr | .x86Cpuid => true

/-- Of two levels of `Cpuid0B` the later one has the greater number and no smaller shift count (44_cpuid.md R322). -/
def levelsRise : List CpuidLevel → Bool
  | [] => true
  | [_] => true
  | a :: b :: ls => (a.number < b.number) && (a.shift ≤ b.shift) && levelsRise (b :: ls)

/-- Every existing level of `Cpuid0B` is of type 1, SMT, or 2, core, and level 0 of type 1: type 0 is invalid and the
others are reserved (44_cpuid.md R322; notes/assumptions/4.md). -/
def typesAreLegal (ls : List CpuidLevel) : Bool := ls.all fun l => l.kind == 1#8 || (l.kind == 2#8 && l.number != 0#32)

/-- The last level of `Cpuid0B`, when there is one, has a shift count of at least 4 (44_cpuid.md R322). -/
def lastIsWide : List CpuidLevel → Bool
  | [] => true
  | [l] => 4#5 ≤ l.shift
  | _ :: b :: ls => lastIsWide (b :: ls)

/-- The constraints on a unit's parameters: 8 to 32 ID bits (00_scope.md R5), an ID that fits in them and is not
their all-ones value (10_state.md R30), a physical address width in which the reset base fits, an SVR whose reset value
(10_state.md R60) has no reserved bit, the topology table. -/
def Params.wf (p : Params) : Bool :=
  8 ≤ p.idBits && p.idBits ≤ 32 && p.x2apicIdHw.toNat < 2 ^ p.idBits - 1 && 32 ≤ p.maxPhyAddr && p.maxPhyAddr ≤ 64
    && p.rsvd.svr &&& 0x000000FF#32 == 0#32
    && levelsRise p.cpuid0B && typesAreLegal p.cpuid0B && lastIsWide p.cpuid0B

end Sys2Proof
end

