-- ==== Sys2Proof/Decode.lean ====
section
/-! DEFINITION. The decoder, from an access operation to its row (30_encoding.md R117, R118; 41_msr_access.md R190,
R191), total and rejecting by name, and the encoder beside it. `decodeTableWord` reads a row's own bits. -/

namespace Sys2Proof

/-- Why an access operation is no row of the table. -/
inductive DecodeError where
  /-- The MSR address is neither 1BH nor in 800H to BFFH: outside the spec (30_encoding.md R117). The access runs
  (notes/assumptions/40.md). -/
  | msrOutsideSpec
  /-- The MMIO access is not 4 bytes wide (20_memory.md R86). -/
  | mmioWidth
  /-- The MMIO offset is no multiple of 16 (20_memory.md R86). -/
  | mmioMisaligned
  /-- The CPUID leaf is neither 01H nor 0BH: outside the spec (44_cpuid.md R320). The access runs
  (notes/assumptions/40.md). -/
  | cpuidLeafOutsideSpec
  /-- The bytes are none of the three encodings of 30_encoding.md R115. -/
  | notAnX86Encoding
deriving DecidableEq, Repr

/-- The row an RDMSR of MSR offset `off` belongs to (30_encoding.md R118). -/
def rdmsrAt (off : BitVec 10) : Instr :=
  if 0x40 ≤ off.toNat then .rdmsrReserved off
  else
    match off.toNat with
    | 0x00 => .rdmsrReserved800
    | 0x01 => .rdmsrReserved801
    | 0x02 => .rdmsrId
    | 0x03 => .rdmsrVer
    | 0x04 => .rdmsrReserved804
    | 0x05 => .rdmsrReserved805
    | 0x06 => .rdmsrReserved806
    | 0x07 => .rdmsrReserved807
    | 0x08 => .rdmsrTpr
    | 0x09 => .rdmsrReserved809
    | 0x0A => .rdmsrPpr
    | 0x0B => .rdmsrEoi
    | 0x0C => .rdmsrReserved80C
    | 0x0D => .rdmsrLdr
    | 0x0E => .rdmsrReserved80E
    | 0x0F => .rdmsrSvr
    | 0x10 => .rdmsrIsrk 0#3
    | 0x11 => .rdmsrIsrk 1#3
    | 0x12 => .rdmsrIsrk 2#3
    | 0x13 => .rdmsrIsrk 3#3
    | 0x14 => .rdmsrIsrk 4#3
    | 0x15 => .rdmsrIsrk 5#3
    | 0x16 => .rdmsrIsrk 6#3
    | 0x17 => .rdmsrIsrk 7#3
    | 0x18 => .rdmsrTmrk 0#3
    | 0x19 => .rdmsrTmrk 1#3
    | 0x1A => .rdmsrTmrk 2#3
    | 0x1B => .rdmsrTmrk 3#3
    | 0x1C => .rdmsrTmrk 4#3
    | 0x1D => .rdmsrTmrk 5#3
    | 0x1E => .rdmsrTmrk 6#3
    | 0x1F => .rdmsrTmrk 7#3
    | 0x20 => .rdmsrIrrk 0#3
    | 0x21 => .rdmsrIrrk 1#3
    | 0x22 => .rdmsrIrrk 2#3
    | 0x23 => .rdmsrIrrk 3#3
    | 0x24 => .rdmsrIrrk 4#3
    | 0x25 => .rdmsrIrrk 5#3
    | 0x26 => .rdmsrIrrk 6#3
    | 0x27 => .rdmsrIrrk 7#3
    | 0x28 => .rdmsrEsr
    | 0x29 => .rdmsrReserved829
    | 0x2A => .rdmsrReserved82A
    | 0x2B => .rdmsrReserved82B
    | 0x2C => .rdmsrReserved82C
    | 0x2D => .rdmsrReserved82D
    | 0x2E => .rdmsrReserved82E
    | 0x2F => .rdmsrReserved82F
    | 0x30 => .rdmsrIcr
    | 0x31 => .rdmsrReserved831
    | 0x32 => .rdmsrLvtTimer
    | 0x33 => .rdmsrLvtThermal
    | 0x34 => .rdmsrLvtPmr
    | 0x35 => .rdmsrLvtLint0
    | 0x36 => .rdmsrLvtLint1
    | 0x37 => .rdmsrLvtError
    | 0x38 => .rdmsrTimerIcr
    | 0x39 => .rdmsrTimerCcr
    | 0x3A => .rdmsrReserved83A
    | 0x3B => .rdmsrReserved83B
    | 0x3C => .rdmsrReserved83C
    | 0x3D => .rdmsrReserved83D
    | 0x3E => .rdmsrTimerDcr
    | _ => .rdmsrSelfIpi

/-- The row a WRMSR of MSR offset `off` belongs to (30_encoding.md R118). -/
def wrmsrAt (off : BitVec 10) (val : W64) : Instr :=
  if 0x40 ≤ off.toNat then .wrmsrReserved off val
  else
    match off.toNat with
    | 0x00 => .wrmsrReserved800 val
    | 0x01 => .wrmsrReserved801 val
    | 0x02 => .wrmsrId val
    | 0x03 => .wrmsrVer val
    | 0x04 => .wrmsrReserved804 val
    | 0x05 => .wrmsrReserved805 val
    | 0x06 => .wrmsrReserved806 val
    | 0x07 => .wrmsrReserved807 val
    | 0x08 => .wrmsrTpr val
    | 0x09 => .wrmsrReserved809 val
    | 0x0A => .wrmsrPpr val
    | 0x0B => .wrmsrEoi val
    | 0x0C => .wrmsrReserved80C val
    | 0x0D => .wrmsrLdr val
    | 0x0E => .wrmsrReserved80E val
    | 0x0F => .wrmsrSvr val
    | 0x10 => .wrmsrIsrk 0#3 val
    | 0x11 => .wrmsrIsrk 1#3 val
    | 0x12 => .wrmsrIsrk 2#3 val
    | 0x13 => .wrmsrIsrk 3#3 val
    | 0x14 => .wrmsrIsrk 4#3 val
    | 0x15 => .wrmsrIsrk 5#3 val
    | 0x16 => .wrmsrIsrk 6#3 val
    | 0x17 => .wrmsrIsrk 7#3 val
    | 0x18 => .wrmsrTmrk 0#3 val
    | 0x19 => .wrmsrTmrk 1#3 val
    | 0x1A => .wrmsrTmrk 2#3 val
    | 0x1B => .wrmsrTmrk 3#3 val
    | 0x1C => .wrmsrTmrk 4#3 val
    | 0x1D => .wrmsrTmrk 5#3 val
    | 0x1E => .wrmsrTmrk 6#3 val
    | 0x1F => .wrmsrTmrk 7#3 val
    | 0x20 => .wrmsrIrrk 0#3 val
    | 0x21 => .wrmsrIrrk 1#3 val
    | 0x22 => .wrmsrIrrk 2#3 val
    | 0x23 => .wrmsrIrrk 3#3 val
    | 0x24 => .wrmsrIrrk 4#3 val
    | 0x25 => .wrmsrIrrk 5#3 val
    | 0x26 => .wrmsrIrrk 6#3 val
    | 0x27 => .wrmsrIrrk 7#3 val
    | 0x28 => .wrmsrEsr val
    | 0x29 => .wrmsrReserved829 val
    | 0x2A => .wrmsrReserved82A val
    | 0x2B => .wrmsrReserved82B val
    | 0x2C => .wrmsrReserved82C val
    | 0x2D => .wrmsrReserved82D val
    | 0x2E => .wrmsrReserved82E val
    | 0x2F => .wrmsrReserved82F val
    | 0x30 => .wrmsrIcr val
    | 0x31 => .wrmsrReserved831 val
    | 0x32 => .wrmsrLvtTimer val
    | 0x33 => .wrmsrLvtThermal val
    | 0x34 => .wrmsrLvtPmr val
    | 0x35 => .wrmsrLvtLint0 val
    | 0x36 => .wrmsrLvtLint1 val
    | 0x37 => .wrmsrLvtError val
    | 0x38 => .wrmsrTimerIcr val
    | 0x39 => .wrmsrTimerCcr val
    | 0x3A => .wrmsrReserved83A val
    | 0x3B => .wrmsrReserved83B val
    | 0x3C => .wrmsrReserved83C val
    | 0x3D => .wrmsrReserved83D val
    | 0x3E => .wrmsrTimerDcr val
    | _ => .wrmsrSelfIpi val

/-- The row a LOAD of slot `slot` belongs to (10_state.md R26, column MMIO offset; 41_msr_access.md R190). -/
def loadAt (page : PageNo) (slot : Byte) : Instr :=
  if 0x40 ≤ slot.toNat then .loadReserved page slot
  else
    match slot.toNat with
    | 0x00 => .loadReserved page slot
    | 0x01 => .loadReserved page slot
    | 0x02 => .loadId page
    | 0x03 => .loadVer page
    | 0x04 => .loadReserved page slot
    | 0x05 => .loadReserved page slot
    | 0x06 => .loadReserved page slot
    | 0x07 => .loadReserved page slot
    | 0x08 => .loadTpr page
    | 0x09 => .loadApr page
    | 0x0A => .loadPpr page
    | 0x0B => .loadEoi page
    | 0x0C => .loadRrr page
    | 0x0D => .loadLdr page
    | 0x0E => .loadDfr page
    | 0x0F => .loadSvr page
    | 0x10 => .loadIsrk page 0#3
    | 0x11 => .loadIsrk page 1#3
    | 0x12 => .loadIsrk page 2#3
    | 0x13 => .loadIsrk page 3#3
    | 0x14 => .loadIsrk page 4#3
    | 0x15 => .loadIsrk page 5#3
    | 0x16 => .loadIsrk page 6#3
    | 0x17 => .loadIsrk page 7#3
    | 0x18 => .loadTmrk page 0#3
    | 0x19 => .loadTmrk page 1#3
    | 0x1A => .loadTmrk page 2#3
    | 0x1B => .loadTmrk page 3#3
    | 0x1C => .loadTmrk page 4#3
    | 0x1D => .loadTmrk page 5#3
    | 0x1E => .loadTmrk page 6#3
    | 0x1F => .loadTmrk page 7#3
    | 0x20 => .loadIrrk page 0#3
    | 0x21 => .loadIrrk page 1#3
    | 0x22 => .loadIrrk page 2#3
    | 0x23 => .loadIrrk page 3#3
    | 0x24 => .loadIrrk page 4#3
    | 0x25 => .loadIrrk page 5#3
    | 0x26 => .loadIrrk page 6#3
    | 0x27 => .loadIrrk page 7#3
    | 0x28 => .loadEsr page
    | 0x29 => .loadReserved page slot
    | 0x2A => .loadReserved page slot
    | 0x2B => .loadReserved page slot
    | 0x2C => .loadReserved page slot
    | 0x2D => .loadReserved page slot
    | 0x2E => .loadReserved page slot
    | 0x2F => .loadReserved page slot
    | 0x30 => .loadIcrLo page
    | 0x31 => .loadIcrHi page
    | 0x32 => .loadLvtTimer page
    | 0x33 => .loadLvtThermal page
    | 0x34 => .loadLvtPmr page
    | 0x35 => .loadLvtLint0 page
    | 0x36 => .loadLvtLint1 page
    | 0x37 => .loadLvtError page
    | 0x38 => .loadTimerIcr page
    | 0x39 => .loadTimerCcr page
    | 0x3A => .loadReserved page slot
    | 0x3B => .loadReserved page slot
    | 0x3C => .loadReserved page slot
    | 0x3D => .loadReserved page slot
    | 0x3E => .loadTimerDcr page
    | _ => .loadReserved page slot

/-- The row a STORE to slot `slot` belongs to (10_state.md R26; 41_msr_access.md R191, R192). -/
def storeAt (page : PageNo) (slot : Byte) (val : W32) : Instr :=
  if 0x40 ≤ slot.toNat then .storeReserved page slot val
  else
    match slot.toNat with
    | 0x00 => .storeReserved page slot val
    | 0x01 => .storeReserved page slot val
    | 0x02 => .storeId page val
    | 0x03 => .storeVer page val
    | 0x04 => .storeReserved page slot val
    | 0x05 => .storeReserved page slot val
    | 0x06 => .storeReserved page slot val
    | 0x07 => .storeReserved page slot val
    | 0x08 => .storeTpr page val
    | 0x09 => .storeApr page val
    | 0x0A => .storePpr page val
    | 0x0B => .storeEoi page val
    | 0x0C => .storeRrr page val
    | 0x0D => .storeLdr page val
    | 0x0E => .storeDfr page val
    | 0x0F => .storeSvr page val
    | 0x10 => .storeIsrk page 0#3 val
    | 0x11 => .storeIsrk page 1#3 val
    | 0x12 => .storeIsrk page 2#3 val
    | 0x13 => .storeIsrk page 3#3 val
    | 0x14 => .storeIsrk page 4#3 val
    | 0x15 => .storeIsrk page 5#3 val
    | 0x16 => .storeIsrk page 6#3 val
    | 0x17 => .storeIsrk page 7#3 val
    | 0x18 => .storeTmrk page 0#3 val
    | 0x19 => .storeTmrk page 1#3 val
    | 0x1A => .storeTmrk page 2#3 val
    | 0x1B => .storeTmrk page 3#3 val
    | 0x1C => .storeTmrk page 4#3 val
    | 0x1D => .storeTmrk page 5#3 val
    | 0x1E => .storeTmrk page 6#3 val
    | 0x1F => .storeTmrk page 7#3 val
    | 0x20 => .storeIrrk page 0#3 val
    | 0x21 => .storeIrrk page 1#3 val
    | 0x22 => .storeIrrk page 2#3 val
    | 0x23 => .storeIrrk page 3#3 val
    | 0x24 => .storeIrrk page 4#3 val
    | 0x25 => .storeIrrk page 5#3 val
    | 0x26 => .storeIrrk page 6#3 val
    | 0x27 => .storeIrrk page 7#3 val
    | 0x28 => .storeEsr page val
    | 0x29 => .storeReserved page slot val
    | 0x2A => .storeReserved page slot val
    | 0x2B => .storeReserved page slot val
    | 0x2C => .storeReserved page slot val
    | 0x2D => .storeReserved page slot val
    | 0x2E => .storeReserved page slot val
    | 0x2F => .storeReserved page slot val
    | 0x30 => .storeIcrLo page val
    | 0x31 => .storeIcrHi page val
    | 0x32 => .storeLvtTimer page val
    | 0x33 => .storeLvtThermal page val
    | 0x34 => .storeLvtPmr page val
    | 0x35 => .storeLvtLint0 page val
    | 0x36 => .storeLvtLint1 page val
    | 0x37 => .storeLvtError page val
    | 0x38 => .storeTimerIcr page val
    | 0x39 => .storeTimerCcr page val
    | 0x3A => .storeReserved page slot val
    | 0x3B => .storeReserved page slot val
    | 0x3C => .storeReserved page slot val
    | 0x3D => .storeReserved page slot val
    | 0x3E => .storeTimerDcr page val
    | _ => .storeReserved page slot val

/-- `addr[31:10] = 000002H` selects the unit, then `addr[9:0]` is the MSR offset (30_encoding.md R111). -/
def selectsUnit (addr : W32) : Bool := addr.extractLsb' 10 22 == 2#22

/-- Decode an RDMSR by its address (30_encoding.md R117). -/
def decodeRdmsr (addr : W32) : Except DecodeError Instr :=
  if addr = 0x1B#32 then .ok .rdmsrIa32ApicBase
  else if selectsUnit addr then .ok (rdmsrAt (addr.extractLsb' 0 10))
  else .error .msrOutsideSpec

/-- Decode a WRMSR by its address (30_encoding.md R117). -/
def decodeWrmsr (addr : W32) (val : W64) : Except DecodeError Instr :=
  if addr = 0x1B#32 then .ok (.wrmsrIa32ApicBase val)
  else if selectsUnit addr then .ok (wrmsrAt (addr.extractLsb' 0 10) val)
  else .error .msrOutsideSpec

/-- Decode a load by its physical address and width (30_encoding.md R113, R117; 20_memory.md R86). Above 03F0H the
default row applies (R117; notes/assumptions/21.md). -/
def decodeLoad (pa : W64) (width : Nat) : Except DecodeError Instr :=
  if width ≠ 4 then .error .mmioWidth
  else if pa.extractLsb' 0 4 ≠ 0#4 then .error .mmioMisaligned
  else .ok (loadAt (pa.extractLsb' 12 52) (pa.extractLsb' 4 8))

/-- Decode a store by its physical address and width, as a load. -/
def decodeStore (pa : W64) (width : Nat) (val : W32) : Except DecodeError Instr :=
  if width ≠ 4 then .error .mmioWidth
  else if pa.extractLsb' 0 4 ≠ 0#4 then .error .mmioMisaligned
  else .ok (storeAt (pa.extractLsb' 12 52) (pa.extractLsb' 4 8) val)

/-- Decode a CPUID by its leaf (30_encoding.md R114). -/
def decodeCpuid (leaf subleaf : W32) : Except DecodeError Instr :=
  if leaf = 0x01#32 then .ok (.cpuid01h subleaf)
  else if leaf = 0x0B#32 then .ok (.cpuid0bh subleaf)
  else .error .cpuidLeafOutsideSpec

/-- Decode a core instruction by its bytes (30_encoding.md R115). -/
def decodeX86 (bytes : List Byte) : Except DecodeError Instr :=
  if bytes = [0x0F#8, 0x32#8] then .ok .x86Rdmsr
  else if bytes = [0x0F#8, 0x30#8] then .ok .x86Wrmsr
  else if bytes = [0x0F#8, 0xA2#8] then .ok .x86Cpuid
  else .error .notAnX86Encoding

/-- The row an access operation belongs to, or why it has none. The format says which operation it is
(30_encoding.md R117: a decoder needs the format and the address and nothing else). -/
def decode : Access → Except DecodeError Instr
  | .msrR addr => decodeRdmsr addr
  | .msrW addr val => decodeWrmsr addr val
  | .mmioR pa width => decodeLoad pa width
  | .mmioW pa width val => decodeStore pa width val
  | .cpuid leaf subleaf => decodeCpuid leaf subleaf
  | .x86 bytes => decodeX86 bytes

/-- The access format MSR-R at MSR offset `off` (30_encoding.md R116: `addr = 800H + off`). -/
def rdmsrOf (off : BitVec 10) : Access := .msrR (2#22 ++ off)

/-- The access format MSR-W at MSR offset `off`. -/
def wrmsrOf (off : BitVec 10) (val : W64) : Access := .msrW (2#22 ++ off) val

/-- The access format MMIO-R at a slot of a page, 4 bytes (30_encoding.md R113: `off = slot * 16`). -/
def loadOf (page : PageNo) (slot : Byte) : Access := .mmioR (page ++ (slot ++ 0#4)) 4

/-- The access format MMIO-W at a slot of a page, 4 bytes. -/
def storeOf (page : PageNo) (slot : Byte) (val : W32) : Access := .mmioW (page ++ (slot ++ 0#4)) 4 val

/-- The encoder: the access operation of a row (spec/opcode_table.json, `match` of each row). -/
def encode : Instr → Access
  | .rdmsrIa32ApicBase => .msrR 0x1B#32
  | .wrmsrIa32ApicBase val => .msrW 0x1B#32 val
  | .rdmsrId => rdmsrOf 0x002#10
  | .wrmsrId val => wrmsrOf 0x002#10 val
  | .rdmsrVer => rdmsrOf 0x003#10
  | .wrmsrVer val => wrmsrOf 0x003#10 val
  | .rdmsrTpr => rdmsrOf 0x008#10
  | .wrmsrTpr val => wrmsrOf 0x008#10 val
  | .rdmsrPpr => rdmsrOf 0x00A#10
  | .wrmsrPpr val => wrmsrOf 0x00A#10 val
  | .rdmsrEoi => rdmsrOf 0x00B#10
  | .wrmsrEoi val => wrmsrOf 0x00B#10 val
  | .rdmsrLdr => rdmsrOf 0x00D#10
  | .wrmsrLdr val => wrmsrOf 0x00D#10 val
  | .rdmsrSvr => rdmsrOf 0x00F#10
  | .wrmsrSvr val => wrmsrOf 0x00F#10 val
  | .rdmsrEsr => rdmsrOf 0x028#10
  | .wrmsrEsr val => wrmsrOf 0x028#10 val
  | .rdmsrIcr => rdmsrOf 0x030#10
  | .wrmsrIcr val => wrmsrOf 0x030#10 val
  | .rdmsrLvtTimer => rdmsrOf 0x032#10
  | .wrmsrLvtTimer val => wrmsrOf 0x032#10 val
  | .rdmsrLvtThermal => rdmsrOf 0x033#10
  | .wrmsrLvtThermal val => wrmsrOf 0x033#10 val
  | .rdmsrLvtPmr => rdmsrOf 0x034#10
  | .wrmsrLvtPmr val => wrmsrOf 0x034#10 val
  | .rdmsrLvtLint0 => rdmsrOf 0x035#10
  | .wrmsrLvtLint0 val => wrmsrOf 0x035#10 val
  | .rdmsrLvtLint1 => rdmsrOf 0x036#10
  | .wrmsrLvtLint1 val => wrmsrOf 0x036#10 val
  | .rdmsrLvtError => rdmsrOf 0x037#10
  | .wrmsrLvtError val => wrmsrOf 0x037#10 val
  | .rdmsrTimerIcr => rdmsrOf 0x038#10
  | .wrmsrTimerIcr val => wrmsrOf 0x038#10 val
  | .rdmsrTimerCcr => rdmsrOf 0x039#10
  | .wrmsrTimerCcr val => wrmsrOf 0x039#10 val
  | .rdmsrTimerDcr => rdmsrOf 0x03E#10
  | .wrmsrTimerDcr val => wrmsrOf 0x03E#10 val
  | .rdmsrSelfIpi => rdmsrOf 0x03F#10
  | .wrmsrSelfIpi val => wrmsrOf 0x03F#10 val
  | .rdmsrIsrk k => rdmsrOf (0x02#7 ++ k)
  | .wrmsrIsrk k val => wrmsrOf (0x02#7 ++ k) val
  | .rdmsrTmrk k => rdmsrOf (0x03#7 ++ k)
  | .wrmsrTmrk k val => wrmsrOf (0x03#7 ++ k) val
  | .rdmsrIrrk k => rdmsrOf (0x04#7 ++ k)
  | .wrmsrIrrk k val => wrmsrOf (0x04#7 ++ k) val
  | .rdmsrReserved800 => rdmsrOf 0x000#10
  | .wrmsrReserved800 val => wrmsrOf 0x000#10 val
  | .rdmsrReserved801 => rdmsrOf 0x001#10
  | .wrmsrReserved801 val => wrmsrOf 0x001#10 val
  | .rdmsrReserved804 => rdmsrOf 0x004#10
  | .wrmsrReserved804 val => wrmsrOf 0x004#10 val
  | .rdmsrReserved805 => rdmsrOf 0x005#10
  | .wrmsrReserved805 val => wrmsrOf 0x005#10 val
  | .rdmsrReserved806 => rdmsrOf 0x006#10
  | .wrmsrReserved806 val => wrmsrOf 0x006#10 val
  | .rdmsrReserved807 => rdmsrOf 0x007#10
  | .wrmsrReserved807 val => wrmsrOf 0x007#10 val
  | .rdmsrReserved809 => rdmsrOf 0x009#10
  | .wrmsrReserved809 val => wrmsrOf 0x009#10 val
  | .rdmsrReserved80C => rdmsrOf 0x00C#10
  | .wrmsrReserved80C val => wrmsrOf 0x00C#10 val
  | .rdmsrReserved80E => rdmsrOf 0x00E#10
  | .wrmsrReserved80E val => wrmsrOf 0x00E#10 val
  | .rdmsrReserved829 => rdmsrOf 0x029#10
  | .wrmsrReserved829 val => wrmsrOf 0x029#10 val
  | .rdmsrReserved82A => rdmsrOf 0x02A#10
  | .wrmsrReserved82A val => wrmsrOf 0x02A#10 val
  | .rdmsrReserved82B => rdmsrOf 0x02B#10
  | .wrmsrReserved82B val => wrmsrOf 0x02B#10 val
  | .rdmsrReserved82C => rdmsrOf 0x02C#10
  | .wrmsrReserved82C val => wrmsrOf 0x02C#10 val
  | .rdmsrReserved82D => rdmsrOf 0x02D#10
  | .wrmsrReserved82D val => wrmsrOf 0x02D#10 val
  | .rdmsrReserved82E => rdmsrOf 0x02E#10
  | .wrmsrReserved82E val => wrmsrOf 0x02E#10 val
  | .rdmsrReserved82F => rdmsrOf 0x02F#10
  | .wrmsrReserved82F val => wrmsrOf 0x02F#10 val
  | .rdmsrReserved831 => rdmsrOf 0x031#10
  | .wrmsrReserved831 val => wrmsrOf 0x031#10 val
  | .rdmsrReserved83A => rdmsrOf 0x03A#10
  | .wrmsrReserved83A val => wrmsrOf 0x03A#10 val
  | .rdmsrReserved83B => rdmsrOf 0x03B#10
  | .wrmsrReserved83B val => wrmsrOf 0x03B#10 val
  | .rdmsrReserved83C => rdmsrOf 0x03C#10
  | .wrmsrReserved83C val => wrmsrOf 0x03C#10 val
  | .rdmsrReserved83D => rdmsrOf 0x03D#10
  | .wrmsrReserved83D val => wrmsrOf 0x03D#10 val
  | .rdmsrReserved off => rdmsrOf off
  | .wrmsrReserved off val => wrmsrOf off val
  | .loadId page => loadOf page 0x02#8
  | .storeId page val => storeOf page 0x02#8 val
  | .loadVer page => loadOf page 0x03#8
  | .storeVer page val => storeOf page 0x03#8 val
  | .loadTpr page => loadOf page 0x08#8
  | .storeTpr page val => storeOf page 0x08#8 val
  | .loadApr page => loadOf page 0x09#8
  | .storeApr page val => storeOf page 0x09#8 val
  | .loadPpr page => loadOf page 0x0A#8
  | .storePpr page val => storeOf page 0x0A#8 val
  | .loadEoi page => loadOf page 0x0B#8
  | .storeEoi page val => storeOf page 0x0B#8 val
  | .loadRrr page => loadOf page 0x0C#8
  | .storeRrr page val => storeOf page 0x0C#8 val
  | .loadLdr page => loadOf page 0x0D#8
  | .storeLdr page val => storeOf page 0x0D#8 val
  | .loadDfr page => loadOf page 0x0E#8
  | .storeDfr page val => storeOf page 0x0E#8 val
  | .loadSvr page => loadOf page 0x0F#8
  | .storeSvr page val => storeOf page 0x0F#8 val
  | .loadEsr page => loadOf page 0x28#8
  | .storeEsr page val => storeOf page 0x28#8 val
  | .loadLvtTimer page => loadOf page 0x32#8
  | .storeLvtTimer page val => storeOf page 0x32#8 val
  | .loadLvtThermal page => loadOf page 0x33#8
  | .storeLvtThermal page val => storeOf page 0x33#8 val
  | .loadLvtPmr page => loadOf page 0x34#8
  | .storeLvtPmr page val => storeOf page 0x34#8 val
  | .loadLvtLint0 page => loadOf page 0x35#8
  | .storeLvtLint0 page val => storeOf page 0x35#8 val
  | .loadLvtLint1 page => loadOf page 0x36#8
  | .storeLvtLint1 page val => storeOf page 0x36#8 val
  | .loadLvtError page => loadOf page 0x37#8
  | .storeLvtError page val => storeOf page 0x37#8 val
  | .loadTimerIcr page => loadOf page 0x38#8
  | .storeTimerIcr page val => storeOf page 0x38#8 val
  | .loadTimerCcr page => loadOf page 0x39#8
  | .storeTimerCcr page val => storeOf page 0x39#8 val
  | .loadTimerDcr page => loadOf page 0x3E#8
  | .storeTimerDcr page val => storeOf page 0x3E#8 val
  | .loadIsrk page k => loadOf page (0x02#5 ++ k)
  | .storeIsrk page k val => storeOf page (0x02#5 ++ k) val
  | .loadTmrk page k => loadOf page (0x03#5 ++ k)
  | .storeTmrk page k val => storeOf page (0x03#5 ++ k) val
  | .loadIrrk page k => loadOf page (0x04#5 ++ k)
  | .storeIrrk page k val => storeOf page (0x04#5 ++ k) val
  | .loadIcrLo page => loadOf page 0x30#8
  | .storeIcrLo page val => storeOf page 0x30#8 val
  | .loadIcrHi page => loadOf page 0x31#8
  | .storeIcrHi page val => storeOf page 0x31#8 val
  | .loadReserved page slot => loadOf page slot
  | .storeReserved page slot val => storeOf page slot val
  | .cpuid01h subleaf => .cpuid 0x01#32 subleaf
  | .cpuid0bh subleaf => .cpuid 0x0B#32 subleaf
  | .x86Rdmsr => .x86 [0x0F#8, 0x32#8]
  | .x86Wrmsr => .x86 [0x0F#8, 0x30#8]
  | .x86Cpuid => .x86 [0x0F#8, 0xA2#8]

/-- The page of the MMIO registers after RESET, `FEE0_0000H` (00_scope.md R5, `APIC_BASE_RESET`). -/
def apicBaseReset : PageNo := 0xFEE00#52

/-- The access operation a row's own bits stand for. A row of spec/opcode_table.json gives its address bits only: the
format is a column of its own, so the same 32 bits are an RDMSR and a WRMSR row, the same 12 bits a LOAD and a STORE
row. This reads 32 bits as an RDMSR where they name an MSR of the spec and as a CPUID leaf elsewhere, and 16 bits as
one of the three x86 encodings (first byte in bits 15:8, as the table numbers it) where they are one and as the offset
of a LOAD from the reset page elsewhere. DESIGN CHOICE (safe: it only chooses which row a bare word names). -/
def tableAccess (nbits w : Nat) : Access :=
  if nbits ≤ 16 then
    let bytes : List Byte := [BitVec.ofNat 8 (w / 256), BitVec.ofNat 8 w]
    match decodeX86 bytes with
    | .ok _ => .x86 bytes
    | .error _ => .mmioR (apicBaseReset ++ BitVec.ofNat 12 w) 4
  else
    let addr := BitVec.ofNat 32 w
    match decodeRdmsr addr with
    | .ok _ => .msrR addr
    | .error _ => .cpuid addr 0#32

/-- The instruction the decoder reads from a row's bits, none where it refuses them. -/
def decodeTableWord (nbits w : Nat) : Option Instr :=
  match decode (tableAccess nbits w) with
  | .ok i => some i
  | .error _ => none

end Sys2Proof
end

