-- ==== Sys2Proof/Machine/Unit.lean ====
section
/-! DEFINITION. The records State is made of: the mode MSR, an LVT entry, the core's port, the unit, a message in
flight, an event of the schedule; and the reset values of a unit (10_state.md R60). -/

namespace Sys2Proof.Machine

/-- The operating state of the unit (10_state.md R24). -/
inductive Mode where
  /-- EN=0, EXTD=0: APIC disabled. -/
  | disabled
  /-- EN=1, EXTD=0: xAPIC mode. -/
  | xapic
  /-- EN=1, EXTD=1: x2APIC mode. -/
  | x2apic
  /-- EN=0, EXTD=1: not valid, in no reachable state (10_state.md R25). -/
  | invalid
deriving DecidableEq, Repr

/-- IA32_APIC_BASE by its fields (10_state.md R23). -/
structure ApicBase where
  /-- APIC_BASE, bits MAXPHYADDR-1:12. -/
  page : PageNo
  /-- Bit 11, EN. -/
  en : Bool
  /-- Bit 10, EXTD. -/
  extd : Bool
  /-- Bit 8, BSP. -/
  bsp : Bool
deriving DecidableEq, Repr

/-- The mode that a pair (EN, EXTD) names (10_state.md R24). -/
def modeOf (en extd : Bool) : Mode :=
  match en, extd with
  | false, false => .disabled
  | true, false => .xapic
  | true, true => .x2apic
  | false, true => .invalid

/-- The entries of the local vector table (10_state.md R42, R44 to R49). -/
inductive LvtId where
  /-- LVT_TIMER. -/
  | timer
  /-- LVT_THERMAL. -/
  | thermal
  /-- LVT_PMR. -/
  | pmr
  /-- LVT_LINT0. -/
  | lint0
  /-- LVT_LINT1. -/
  | lint1
  /-- LVT_ERROR. -/
  | error
  /-- LVT_CMCI, present when `HAS_LVT_CMCI` (10_state.md R42). -/
  | cmci
deriving DecidableEq, Repr

/-- The local interrupt sources of the environment (60_exceptions.md R347): the platform's and the core's. The timer
fires by its tick (R365) and the error entry by a logged error (R346), so they are none of these. -/
inductive LocalSource where
  /-- The thermal sensor. -/
  | thermal
  /-- A counter of the core overflows. -/
  | pmr
  /-- The LINT0 pin. -/
  | lint0
  /-- The LINT1 pin. -/
  | lint1
  /-- The source of LVT_CMCI, which exists when `HAS_LVT_CMCI` (10_state.md R42). DEDUCED (notes/assumptions/23.md). -/
  | cmci
deriving DecidableEq, Repr

/-- The entry of a local source. -/
def LocalSource.entry : LocalSource → LvtId
  | .thermal => .thermal
  | .pmr => .pmr
  | .lint0 => .lint0
  | .lint1 => .lint1
  | .cmci => .cmci

/-- One LVT entry: its register without the read-only status bits, and the vectors of its source that are accepted and
not yet dispatched, from which the status bits are read (43_registers_icr_to_selfipi.md R271, `status_bits`). -/
structure Lvt where
  /-- The writable bits as last written. -/
  reg : W32
  /-- The vectors of this source that were accepted and not yet dispatched (the model's own field). -/
  raised : Bits256
deriving DecidableEq, Repr

/-- How the core's last operation ended (30_encoding.md R110; 60_exceptions.md R340). -/
inductive Answer where
  /-- No operation yet. -/
  | none
  /-- A write that completed. -/
  | done
  /-- RDMSR: the 64-bit data word. -/
  | value (val : W64)
  /-- LOAD: the 32-bit data word. -/
  | data (val : W32)
  /-- CPUID: EAX, EBX, ECX, EDX. -/
  | cpuid (eax ebx ecx edx : W32)
  /-- An exception reported to the core, with its vector and error code. -/
  | exception (vector : Byte) (errorCode : W32)
deriving DecidableEq, Repr

/-- The core's side of the port: the operand registers the spec's formats name (30_encoding.md R111, R112, R114), the
privilege flag (60_exceptions.md R370), the interrupt-enable flag (60_exceptions.md R356), and what the core awaits. -/
structure Core where
  /-- EAX. -/
  eax : W32
  /-- EBX. -/
  ebx : W32
  /-- ECX. -/
  ecx : W32
  /-- EDX. -/
  edx : W32
  /-- Current privilege level. -/
  cpl : BitVec 2
  /-- The core takes interrupts. -/
  intEnabled : Bool
  /-- The core has sampled an offer it has not acknowledged (60_exceptions.md R350, R359). -/
  sampled : Bool
  /-- The instruction before this boundary wrote the TPR (42_registers_id_to_esr.md R211). -/
  tprBoundary : Bool
  /-- The outcome of the last operation. -/
  answer : Answer
deriving DecidableEq, Repr

/-- What leaves a unit, seen at its boundary. -/
inductive Output where
  /-- `taken(unit, v)`: the core took the interrupt of this vector (60_exceptions.md R353, R361). -/
  | taken (vec : Byte)
  /-- The spurious vector was delivered (60_exceptions.md R359). -/
  | spurious (vec : Byte)
  /-- A non-fixed delivery was handed to the core, by its delivery mode (60_exceptions.md R358). -/
  | coreEvent (del : BitVec 3) (vec : Byte)
  /-- An EOI message to the IOxAPICs (60_exceptions.md R357). -/
  | eoiBroadcast (vec : Byte)
deriving DecidableEq, Repr

/-- How a message came to be in flight. -/
inductive Origin where
  /-- A unit sent it, or a device (60_exceptions.md R347, R348). -/
  | sent
  /-- The unit it reached did not accept it and holds it (notes/assumptions/14.md). -/
  | held
  /-- The unit did not accept this local source's interrupt and holds it (notes/assumptions/14.md). -/
  | source (x : LvtId)
deriving DecidableEq, Repr

/-- An interrupt message in flight (10_state.md R73; 60_exceptions.md R348). Units are identified by their x2APIC ID
(60_exceptions.md R372). -/
structure Msg where
  /-- The sending unit, for 70_reset_and_hazards.md R400. -/
  src : W32
  /-- The target unit. -/
  dst : W32
  /-- Delivery mode. -/
  del : BitVec 3
  /-- Vector. -/
  vec : Byte
  /-- Trigger mode: level. -/
  trig : Bool
  /-- Level: assert. -/
  level : Bool
  /-- How it came to be in flight (the model's own field). -/
  origin : Origin
deriving DecidableEq, Repr

/-- One local x2APIC unit and its core's port. -/
structure Apic where
  /-- The parameters (00_scope.md R5). -/
  hw : Params
  /-- IA32_APIC_BASE (10_state.md R23). -/
  base : ApicBase
  /-- The local xAPIC ID (10_state.md R30). -/
  xapicId : Byte
  /-- TPR[7:0] (10_state.md R32). -/
  tpr : Byte
  /-- LDR (10_state.md R35). -/
  ldr : W32
  /-- DFR, xAPIC mode only (10_state.md R36). -/
  dfr : W32
  /-- SVR (10_state.md R37). -/
  svr : W32
  /-- ISR (10_state.md R38). -/
  isr : Bits256
  /-- TMR (10_state.md R39). -/
  tmr : Bits256
  /-- IRR (10_state.md R40). -/
  irr : Bits256
  /-- ESR, the visible register (10_state.md R41). -/
  esr : W32
  /-- esr_pending, the accumulator (10_state.md R72). -/
  esrPending : W32
  /-- ICR (10_state.md R43). -/
  icr : W64
  /-- LVT_TIMER (10_state.md R44). -/
  lvtTimer : Lvt
  /-- LVT_THERMAL (10_state.md R45). -/
  lvtThermal : Lvt
  /-- LVT_PMR (10_state.md R46). -/
  lvtPmr : Lvt
  /-- LVT_LINT0 (10_state.md R47). -/
  lvtLint0 : Lvt
  /-- LVT_LINT1 (10_state.md R48). -/
  lvtLint1 : Lvt
  /-- LVT_ERROR (10_state.md R49). -/
  lvtError : Lvt
  /-- LVT_CMCI (10_state.md R42). -/
  lvtCmci : Lvt
  /-- TIMER_ICR (10_state.md R50). -/
  timerIcr : W32
  /-- TIMER_DCR (10_state.md R52). -/
  timerDcr : W32
  /-- TIMER_CCR, the running count (10_state.md R51). -/
  count : W32
  /-- The timer is counting (10_state.md R74). -/
  running : Bool
  /-- Input clocks of the current divided tick that have passed (10_state.md R74). DESIGN CHOICE, unsafe: 0 after RESET
  and INIT, moved by input clocks of a running timer alone (notes/assumptions/29.md). -/
  frac : Nat
  /-- The core's port. -/
  core : Core
  /-- What left the unit, oldest first. -/
  out : List Output
deriving DecidableEq, Repr

/-- One step of one agent, or one operation of the acting unit's core (20_memory.md R95; 60_exceptions.md R347, R349,
R353, R365; 70_reset_and_hazards.md R400, R403). -/
inductive Event where
  /-- The core issues an access operation at a privilege level (60_exceptions.md R370). -/
  | access (cpl : BitVec 2) (a : Access)
  /-- The core runs instructions outside the model and leaves these in its operand registers and interrupt flag. -/
  | coreRuns (eax ebx ecx edx : W32) (intEnabled : Bool)
  /-- The core samples the offer (60_exceptions.md R350). -/
  | sample
  /-- The core acknowledges an interrupt (60_exceptions.md R353, R359). -/
  | take
  /-- The delivery agent delivers the `k`-th message in flight (60_exceptions.md R349). -/
  | deliver (k : Nat)
  /-- A device's interrupt message reaches the acting unit (60_exceptions.md R347). -/
  | deviceMessage (del : BitVec 3) (vec : Byte) (level : Bool)
  /-- The timer agent ticks (60_exceptions.md R365). -/
  | tick
  /-- One input clock of the timer (60_exceptions.md R365). -/
  | clock
  /-- A local interrupt source fires (60_exceptions.md R347, R360). -/
  | source (x : LocalSource)
  /-- RESET of the acting unit (70_reset_and_hazards.md R400). -/
  | resetUnit
  /-- INIT of the acting unit, by the platform (70_reset_and_hazards.md R403). -/
  | initUnit
  /-- The `k`-th other unit becomes the acting one (92_eei_decisions.md D1). -/
  | select (k : Nat)
deriving DecidableEq, Repr

/-- `2^k - 1`: the low `k` bits set, all of them where `k` is the width or more. -/
def lowMask (w k : Nat) : BitVec w := BitVec.ofNat w (2 ^ k - 1)

/-- The x2APIC ID: the hardware's ID with the bits at and above `ID_BITS` read as zero (10_state.md R30). -/
def x2apicIdOf (p : Params) : W32 := p.x2apicIdHw &&& lowMask 32 p.idBits

/-- An LVT entry at RESET and INIT: masked (10_state.md R44 to R49, R60). -/
def lvtAtReset : Lvt where
  reg := 0x00010000#32
  raised := 0#256

/-- The core's port when nothing has happened yet. DESIGN CHOICE, unsafe (notes/assumptions/8.md). -/
def coreAtReset : Core where
  eax := 0#32
  ebx := 0#32
  ecx := 0#32
  edx := 0#32
  cpl := 0#2
  intEnabled := false
  sampled := false
  tprBoundary := false
  answer := .none

/-- The three quantities the interrupt logic works on. -/
def Apic.regs (u : Apic) : IntrRegs where
  irr := u.irr
  isr := u.isr
  tmr := u.tmr

/-- The unit with those three quantities replaced. -/
def Apic.withRegs (u : Apic) (r : IntrRegs) : Apic := { u with irr := r.irr, isr := r.isr, tmr := r.tmr }

/-- A unit after RESET (10_state.md R60, column after RESET). `esrDraw` and `pendingDraw` are the two `draw`s of that
column, of which the existing bits 7:0 are kept. -/
def apicAtReset (hw : Params) (esrDraw pendingDraw : W64) : Apic where
  hw := hw
  base := { page := apicBaseReset, en := true, extd := false, bsp := hw.isBsp }
  xapicId := hw.x2apicIdHw.extractLsb' 0 8
  tpr := 0#8
  ldr := 0#32
  dfr := 0xFFFFFFFF#32
  svr := 0x000000FF#32
  isr := 0#256
  tmr := 0#256
  irr := 0#256
  esr := esrDraw.extractLsb' 0 32 &&& 0x000000FF#32
  esrPending := pendingDraw.extractLsb' 0 32 &&& 0x000000FF#32
  icr := 0#64
  lvtTimer := lvtAtReset
  lvtThermal := lvtAtReset
  lvtPmr := lvtAtReset
  lvtLint0 := lvtAtReset
  lvtLint1 := lvtAtReset
  lvtError := lvtAtReset
  lvtCmci := lvtAtReset
  timerIcr := 0#32
  timerDcr := 0#32
  count := 0#32
  running := false
  frac := 0
  core := coreAtReset
  out := []

end Sys2Proof.Machine
end

