-- ==== Sys2Proof/Machine/State.lean ====
section
/-! DEFINITION. The machine's state: the platform of units (60_exceptions.md R372), the messages in flight
(10_state.md R73), the model's counter of free values and its schedule; why a step can stop; the state after reset. -/

namespace Sys2Proof.Machine

/-- The platform as plain data. One unit is the acting one: a core's operation works on its own unit
(60_exceptions.md R372), and the event `select` says which unit acts next. -/
structure State where
  /-- The acting unit. -/
  self : Apic
  /-- The other units of the platform. -/
  others : List Apic
  /-- `ipi_in_flight` (10_state.md R73), in order of sending. -/
  inflight : List Msg
  /-- How many free values have been used (the model's own field). -/
  draws : Nat
  /-- What happens next, first event first (the model's own field). -/
  schedule : List Event
deriving DecidableEq, Repr

/-- A schedule entry that no agent can perform. All are safe: the run is no run of the machine. -/
inductive Fault where
  /-- Raised by the event `take` when the core's interrupts are off, or nothing is offered and nothing was sampled
  (60_exceptions.md R356, R359). Safe. -/
  | nothingToTake
  /-- Raised by the event `deliver` when there is no such message in flight (60_exceptions.md R349). Safe. -/
  | noSuchMessage
  /-- Raised by the event `select` when there is no such unit (60_exceptions.md R372). Safe. -/
  | noSuchUnit
  /-- Raised by the event `source` of LVT_CMCI's source in a unit that has no LVT_CMCI (10_state.md R42). Safe. -/
  | noSuchSource
deriving DecidableEq, Repr

/-- An operation the spec's model refuses. All are safe: nothing is claimed of what the hardware does. -/
inductive Refusal where
  /-- Raised by an arm of `exec` whose instruction has no meaning yet. Safe. -/
  | notModelled (mnemonic : String)
  /-- Raised by the step for an MMIO access of another width or alignment (20_memory.md R86), and for bytes that are
  none of the three encodings (30_encoding.md R115). Safe. -/
  | undecoded (why : DecodeError)
  /-- Raised by LOAD and STORE outside xAPIC mode (41_msr_access.md R193). Safe. -/
  | mmioOutsideXapicMode
  /-- Raised by LOAD and STORE of a page that is not the unit's (30_encoding.md R113). Safe. -/
  | notTheApicPage
  /-- Raised by a WRMSR of IA32_APIC_BASE that would change BSP (40_enable_and_mode.md R148). Safe. -/
  | bspFlagChange
  /-- Raised by a WRMSR of IA32_APIC_BASE that changes the mode while an interrupt is pending, in service or in flight
  to the unit (70_reset_and_hazards.md R427). Safe. -/
  | pendingAtModeChange
  /-- Raised by an ICR write with delivery mode 011 or 111 (43_registers_icr_to_selfipi.md R267). Safe. -/
  | reservedDeliveryMode
deriving DecidableEq, Repr

/-- The outcome of a step of this machine. -/
abbrev Outcome := Host.Outcome State Fault Refusal

/-- The `n`-th unit of the platform, of x2APIC ID `id`, right after RESET, with its own two free values. -/
def unitAtReset (n : Nat) (id : W32) : Apic :=
  apicAtReset (Config.unitParams n id) (Config.free (2 * n)) (Config.free (2 * n + 1))

/-- The units of these x2APIC IDs right after RESET, numbered from `n`. -/
def unitsAtReset (n : Nat) : List W32 → List Apic
  | [] => []
  | id :: ids => unitAtReset n id :: unitsAtReset (n + 1) ids

/-- The machine right after RESET of every unit (10_state.md R60; 70_reset_and_hazards.md R400): nothing is in flight
and nothing is scheduled. -/
def State.reset : State where
  self := unitAtReset 0 Config.firstId
  others := unitsAtReset 1 Config.otherIds
  inflight := []
  draws := 2 * (Config.otherIds.length + 1)
  schedule := []

end Sys2Proof.Machine
end

