-- ==== Sys2Proof/Machine/Operands.lean ====
section
/-! DEFINITION. Operand forms and register views: bit fields, the bits of the 256-bit quantities, the reserved-bit
masks `RSVD[reg]` of a unit (10_state.md R29 to R53), the computed registers ID, VER and LDR, the data words of each
register. -/

namespace Sys2Proof.Machine

/-! ### Bit fields -/

/-- The data word of a 32-bit register (30_encoding.md R116: `val = zext_64(REG)`). -/
def zext64 (v : W32) : W64 := v.setWidth 64

/-- `val[31:0]`. -/
def lowHalf (val : W64) : W32 := val.extractLsb' 0 32

/-- `val[63:32]`. -/
def highHalf (val : W64) : W32 := val.extractLsb' 32 32

/-- `val[7:0]` of a 32-bit word. -/
def lowByte (val : W32) : Byte := val.extractLsb' 0 8

/-- The 256-bit quantity with the one bit of vector `v` set (10_state.md R38). -/
def vecBit (v : Byte) : Bits256 := 1#256 <<< v.toNat

/-- The highest vector whose bit is set (60_exceptions.md R355, R356, R357). -/
def highest (b : Bits256) : Option Byte :=
  if b = 0#256 then none else some (BitVec.ofNat 8 b.toNat.log2)

/-- Register `k` of a bank: bits `32k+31 : 32k` (30_encoding.md R116). -/
def bank (b : Bits256) (k : BitVec 3) : W32 := b.extractLsb' (32 * k.toNat) 32

/-- The priority class of a vector or of a priority: bits 7:4 (10_state.md R32; 60_exceptions.md R355). -/
def classOf (v : Byte) : BitVec 4 := v.extractLsb' 4 4

/-! ### Mode -/

/-- `mode()` (10_state.md R24). -/
def Apic.mode (u : Apic) : Mode := modeOf u.base.en u.base.extd

/-! ### Identification -/

/-- The unit's x2APIC ID (10_state.md R30). -/
def Apic.x2apicId (u : Apic) : W32 := x2apicIdOf u.hw

/-- The ID register of xAPIC mode: the local xAPIC ID in bits 31:24 (10_state.md R30). -/
def Apic.idXapic (u : Apic) : W32 := u.xapicId ++ 0#24

/-- The version register (10_state.md R31; 42_registers_id_to_esr.md R202). -/
def versionOf (p : Params) : W32 :=
  0#7 ++ (BitVec.ofBool p.directedEoi ++ (p.maxLvt ++ (0#8 ++ p.version)))

/-- `logical_x2apic_id` (42_registers_id_to_esr.md R231): cluster ID `id[19:4]`, logical ID `1 << id[3:0]`. -/
def logicalX2apicId (id : W32) : W32 :=
  (id.extractLsb' 4 16 ++ 0#16) ||| (1#32 <<< (id.extractLsb' 0 4).toNat)

/-- The data word of IA32_APIC_BASE (40_enable_and_mode.md R141). -/
def ApicBase.word (b : ApicBase) : W64 :=
  b.page ++ (BitVec.ofBool b.en ++ (BitVec.ofBool b.extd ++ (0#1 ++ (BitVec.ofBool b.bsp ++ 0#8))))

/-! ### Reserved bits of the MSR data words -/

/-- The mask of a 32-bit register's data word: bits 63:32 are reserved (41_msr_access.md R177). -/
def wordMask (low : W32) : W64 := 0xFFFFFFFF#32 ++ low

/-- `RSVD[IA32_APIC_BASE]`: bits 63:MAXPHYADDR, 9 and 7:0 (40_enable_and_mode.md R148). -/
def rsvdApicBase (p : Params) : W64 := ~~~(lowMask 64 p.maxPhyAddr) ||| 0x2FF#64

/-- `RSVD[TPR]` (10_state.md R32). -/
def rsvdTpr (p : Params) : W64 := wordMask p.rsvd.tpr

/-- `RSVD[EOI]`: only zero may be written (10_state.md R34). -/
def rsvdEoi : W64 := 0xFFFFFFFFFFFFFFFF#64

/-- `RSVD[SVR]`: bit 12 exists only with `DIRECTED_EOI` (10_state.md R37). -/
def rsvdSvr (p : Params) : W64 := wordMask (if p.directedEoi then p.rsvd.svr else p.rsvd.svr ||| 0x00001000#32)

/-- `RSVD[ESR]` for the write check: only zero may be written (10_state.md R41). -/
def rsvdEsr : W64 := 0xFFFFFFFFFFFFFFFF#64

/-- The ESR's bits that a RDMSR shows, 7:4 (42_registers_id_to_esr.md R250). -/
def esrVisible : W32 := 0x000000F0#32

/-- `RSVD[ICR]`: the destination ID in bits 63:32 is not reserved (10_state.md R43). -/
def rsvdIcr (p : Params) : W64 := 0#32 ++ p.rsvd.icr

/-- `RSVD[TIMER_ICR]` (10_state.md R50). -/
def rsvdTimerIcr (p : Params) : W64 := wordMask p.rsvd.timerIcr

/-- `RSVD[TIMER_DCR]` (10_state.md R52). -/
def rsvdTimerDcr (p : Params) : W64 := wordMask p.rsvd.timerDcr

/-- The divide bits of TIMER_DCR, 3 and 1:0, which a RDMSR shows (10_state.md R52; 43_registers_icr_to_selfipi.md
R288). -/
def timerDcrBits : W32 := 0x0000000B#32

/-- `RSVD[SELF_IPI]` (10_state.md R53). -/
def rsvdSelfIpi (p : Params) : W64 := wordMask p.rsvd.selfIpi

/-- The bits of SVR that exist in xAPIC mode: bit 9 is focus checking there (10_state.md R37). -/
def svrBitsXapic (p : Params) : W32 := ~~~(lowHalf (rsvdSvr p)) ||| 0x00000200#32

/-- The bits of the xAPIC-mode ICR low half that software writes (10_state.md R43). -/
def icrLowBits (p : Params) : W32 := ~~~p.rsvd.icr

/-- The bits that exist at the top of a 32-bit register whose field is 31:24: LDR, ICR high (10_state.md R35, R43). -/
def topByteBits : W32 := 0xFF000000#32

/-- The bits of DFR that read as ones, 27:0 (10_state.md R36). -/
def dfrOnes : W32 := 0x0FFFFFFF#32

/-! ### The local vector table -/

/-- The entry `x` of a unit. -/
def Apic.lvt (u : Apic) : LvtId → Lvt
  | .timer => u.lvtTimer
  | .thermal => u.lvtThermal
  | .pmr => u.lvtPmr
  | .lint0 => u.lvtLint0
  | .lint1 => u.lvtLint1
  | .error => u.lvtError
  | .cmci => u.lvtCmci

/-- The unit with its entry `x` replaced by `l`. -/
def Apic.withLvt (u : Apic) (x : LvtId) (l : Lvt) : Apic :=
  match x with
  | .timer => { u with lvtTimer := l }
  | .thermal => { u with lvtThermal := l }
  | .pmr => { u with lvtPmr := l }
  | .lint0 => { u with lvtLint0 := l }
  | .lint1 => { u with lvtLint1 := l }
  | .error => { u with lvtError := l }
  | .cmci => { u with lvtCmci := l }

/-- The unit in which entry `x` has `r` as the vectors of its source that are accepted and not dispatched. -/
def Apic.withRaised (u : Apic) (x : LvtId) (r : Bits256) : Apic := u.withLvt x { u.lvt x with raised := r }

/-- The unit in which no local source has vector `v` waiting for dispatch any more. -/
def Apic.unraise (u : Apic) (v : Byte) : Apic :=
  let drop (l : Lvt) : Lvt := { l with raised := l.raised &&& ~~~(vecBit v) }
  { u with
    lvtTimer := drop u.lvtTimer
    lvtThermal := drop u.lvtThermal
    lvtPmr := drop u.lvtPmr
    lvtLint0 := drop u.lvtLint0
    lvtLint1 := drop u.lvtLint1
    lvtError := drop u.lvtError
    lvtCmci := drop u.lvtCmci }

/-- `WR[x]`, the writable bits (43_registers_icr_to_selfipi.md R271, R273, R277, R281). -/
def lvtWr : LvtId → W32
  | .timer => 0x000300FF#32
  | .thermal => 0x000107FF#32
  | .pmr => 0x000107FF#32
  | .lint0 => 0x0001A7FF#32
  | .lint1 => 0x0001A7FF#32
  | .error => 0x000100FF#32
  | .cmci => 0x000107FF#32

/-- `RO[x]`, the read-only status bits (43_registers_icr_to_selfipi.md R271, R277). -/
def lvtRo : LvtId → W32
  | .lint0 => 0x00005000#32
  | .lint1 => 0x00005000#32
  | .timer => 0x00001000#32
  | .thermal => 0x00001000#32
  | .pmr => 0x00001000#32
  | .error => 0x00001000#32
  | .cmci => 0x00001000#32

/-- `RSVD[LVT_x]` (10_state.md R44 to R49; 43_registers_icr_to_selfipi.md R272 to R282). -/
def rsvdLvt (p : Params) : LvtId → W64
  | .timer => wordMask p.rsvd.lvtTimer
  | .thermal => wordMask p.rsvd.lvtThermal
  | .pmr => wordMask p.rsvd.lvtPmr
  | .lint0 => wordMask p.rsvd.lvtLint0
  | .lint1 => wordMask p.rsvd.lvtLint1
  | .error => wordMask p.rsvd.lvtError
  | .cmci => wordMask p.rsvd.lvtCmci

/-- The bits of an LVT register that software may set: writable and not reserved. -/
def lvtBits (p : Params) (x : LvtId) : W32 := lvtWr x &&& ~~~(lowHalf (rsvdLvt p x))

/-- The vector of an LVT register, bits 7:0. -/
def lvtVector (reg : W32) : Byte := reg.extractLsb' 0 8

/-- The mask bit of an LVT register, bit 16. -/
def lvtMasked (reg : W32) : Bool := reg.getLsbD 16

/-- `delivery_mode(L)`: bits 10:8, fixed for the timer and error entries (60_exceptions.md R360). -/
def lvtDelivery (x : LvtId) (reg : W32) : BitVec 3 :=
  match x with
  | .timer => 0#3
  | .error => 0#3
  | .thermal => reg.extractLsb' 8 3
  | .pmr => reg.extractLsb' 8 3
  | .lint0 => reg.extractLsb' 8 3
  | .lint1 => reg.extractLsb' 8 3
  | .cmci => reg.extractLsb' 8 3

/-- `trigger(L)`: bit 15 for LINT0 and LINT1, edge otherwise (60_exceptions.md R360). `true` is level. -/
def lvtTrigger (x : LvtId) (reg : W32) : Bool :=
  match x with
  | .lint0 => reg.getLsbD 15
  | .lint1 => reg.getLsbD 15
  | .timer => false
  | .thermal => false
  | .pmr => false
  | .error => false
  | .cmci => false

/-! ### The timer's divide value -/

/-- How many input clocks make one divided tick, from bits 3 and 1:0 (10_state.md R52). -/
def divideValue (dcr : W32) : Nat :=
  let code := BitVec.ofBool (dcr.getLsbD 3) ++ dcr.extractLsb' 0 2
  if code = 7#3 then 1 else 2 ^ (code.toNat + 1)

/-! ### The fields of an interrupt command -/

/-- An interrupt command as `send_ipi` takes it (60_exceptions.md R348). -/
structure Command where
  /-- Destination ID: 32 bits in x2APIC mode, 8 bits (zero-extended) in xAPIC mode. -/
  dest : W32
  /-- Destination shorthand. -/
  sh : BitVec 2
  /-- Trigger mode: level. -/
  trig : Bool
  /-- Level: assert. -/
  level : Bool
  /-- Destination mode: logical. -/
  dmode : Bool
  /-- Delivery mode. -/
  del : BitVec 3
  /-- Vector. -/
  vec : Byte
deriving DecidableEq, Repr

/-- The command in the low half of an ICR, with its destination (43_registers_icr_to_selfipi.md R262). -/
def commandOf (dest low : W32) : Command where
  dest := dest
  sh := low.extractLsb' 18 2
  trig := low.getLsbD 15
  level := low.getLsbD 14
  dmode := low.getLsbD 11
  del := low.extractLsb' 8 3
  vec := low.extractLsb' 0 8

/-- The command of a SELF IPI write (43_registers_icr_to_selfipi.md R301). -/
def selfCommand (vec : Byte) : Command where
  dest := 0#32
  sh := 1#2
  trig := false
  level := true
  dmode := false
  del := 0#3
  vec := vec

end Sys2Proof.Machine
end

