-- ==== Sys2Proof/Machine/Flags.lean ====
section
/-! DEFINITION. Status computations. The unit has no flags register and no operation writes a condition code
(10_state.md R22); what it has instead are the ICR delivery status bit, the error bits of the ESR and the read-only
status bits of the LVT registers. Here is how the first and the last are read. -/

namespace Sys2Proof.Machine

/-- The ICR's delivery status bit of xAPIC mode: a message this unit sent is still in flight (10_state.md R73). -/
def deliveryPending (s : State) : Bool :=
  s.inflight.any fun m => m.src == s.self.x2apicId && m.origin == .sent

/-- The ICR's low half as xAPIC mode shows it: bit 12 is the delivery status (41_msr_access.md R190). -/
def icrLowXapic (s : State) : W32 :=
  (lowHalf s.self.icr &&& ~~~0x00001000#32) ||| (if deliveryPending s then 0x00001000#32 else 0#32)

/-- An interrupt of the local source `x` is pending: accepted and not dispatched, or held as a message in flight to the
unit (notes/assumptions/14.md, 15.md). -/
def sourcePending (x : LvtId) (s : State) : Bool :=
  (s.self.lvt x).raised &&& s.self.irr != 0#256
    || s.inflight.any fun m => m.dst == s.self.x2apicId && m.origin == .source x

/-- The status bits of entry `x` whose value is open now: delivery status and remote IRR are 0 whenever no interrupt
from that source is pending, and free while one is (43_registers_icr_to_selfipi.md R271, R277). -/
def openStatus (x : LvtId) (s : State) : W32 := if sourcePending x s then lvtRo x else 0#32

/-- What an LVT register reads as: the writable bits and the status bits, of which the open ones are taken from
`free` (43_registers_icr_to_selfipi.md R271). -/
def lvtWord (x : LvtId) (free : W64) (s : State) : W32 :=
  ((s.self.lvt x).reg &&& lvtWr x) ||| (lowHalf free &&& openStatus x s)

end Sys2Proof.Machine
end

