-- ==== Sys2Proof/Machine/Ops.lean ====
section
/-! DEFINITION. The named operations over the state: updates of the acting unit, free values, answering an operation,
the general-protection exception, the interrupt logic and its default, logging an error, accepting an interrupt, taking
one and its end (EOI), and the common templates of RDMSR and WRMSR. -/

namespace Sys2Proof.Machine

/-! ### Updates -/

/-- The state with the acting unit changed by `f`. -/
def State.mapSelf (f : Apic → Apic) (s : State) : State := { s with self := f s.self }

/-- The state with the acting unit's core port changed by `f`. -/
def State.mapCore (f : Core → Core) (s : State) : State :=
  s.mapSelf fun u => { u with core := f u.core }

/-- The operation ends with this outcome for the core. -/
def State.answered (a : Answer) (s : State) : State := s.mapCore fun c => { c with answer := a }

/-- Something left the acting unit. -/
def State.emit (o : Output) (s : State) : State := s.mapSelf fun u => { u with out := u.out ++ [o] }

/-- The state with a message more in flight. -/
def State.post (m : Msg) (s : State) : State := { s with inflight := s.inflight ++ [m] }

/-! ### Free values (00_scope.md R10, `draw`) -/

/-- The next free word. -/
def State.freeWord (s : State) : W64 := Config.free s.draws

/-- The next free truth value. -/
def State.freeBool (s : State) : Bool := s.freeWord.getLsbD 0

/-- `n` free values have been used. -/
def State.drew (n : Nat) (s : State) : State := { s with draws := s.draws + n }

/-! ### The exception and the common checks -/

/-- `raise GP(0)` (60_exceptions.md R340): nothing of the unit changes; the core receives exception 13, error code 0.
Its return is the core's own matter (60_exceptions.md R361, R362). -/
def raiseGP (s : State) : State := s.answered (.exception 13#8 0#32)

/-- The checks common to every MSR access of 800H to BFFH: privilege, then mode (41_msr_access.md R181, R182). -/
def msrOpen (s : State) : Bool := s.self.core.cpl == 0#2 && s.self.mode == .x2apic

/-- An RDMSR that completes with `val` where the common checks pass, after which the state is `after`
(41_msr_access.md R182). -/
def rdmsrThen (val : W64) (after : State) (s : State) : Outcome :=
  .next (if msrOpen s then after.answered (.value val) else raiseGP s)

/-- An RDMSR without any effect but its value. -/
def rdmsr (val : W64) (s : State) : Outcome := rdmsrThen val s s

/-- An RDMSR of a register with the mask `rsvd`: reserved bits read as zero (41_msr_access.md R176). -/
def rdmsrMasked (rsvd val : W64) (s : State) : Outcome := rdmsr (val &&& ~~~rsvd) s

/-- A WRMSR: the common checks, the reserved bits, then the register's write rule (41_msr_access.md R181). -/
def wrmsr (rsvd val : W64) (effect : State → State) (s : State) : Outcome :=
  .next (if msrOpen s && val &&& rsvd == 0#64 then (effect s).answered .done else raiseGP s)

/-- An MSR access that always raises GP(0): reserved address, read-only or write-only register (41_msr_access.md R174,
R178, R179); outside x2APIC mode and with CPL > 0 it does as well (R171, 60_exceptions.md R370). -/
def alwaysGP (s : State) : Outcome := .next (raiseGP s)

/-! ### The default interrupt logic (60_exceptions.md R351: the default of the parameter `IntrLogic`) -/

/-- The default `accept` (60_exceptions.md R352). -/
def standardAccept (vec : Byte) (level : Bool) (r : IntrRegs) : IntrRegs :=
  { r with
    irr := r.irr ||| vecBit vec
    tmr := if level then r.tmr ||| vecBit vec else r.tmr &&& ~~~(vecBit vec) }

/-- The default dispatch (60_exceptions.md R353). -/
def standardDispatch (v : Byte) (r : IntrRegs) : IntrRegs :=
  { r with irr := r.irr &&& ~~~(vecBit v), isr := r.isr ||| vecBit v }

/-- The priority class of the processor priority: the greater of TPR's and the highest in-service vector's
(60_exceptions.md R355). -/
def pprClass (tpr : Byte) (isr : Bits256) : BitVec 4 :=
  let c := classOf ((highest isr).getD 0#8)
  if c ≤ classOf tpr then classOf tpr else c

/-- The default `ppr()` (60_exceptions.md R355). Where the two classes are equal `lowZero` chooses between
`TPR[7:4]:0000b` and `TPR[7:0]`, the two values that rule allows. -/
def standardPpr (lowZero : Bool) (tpr : Byte) (isr : Bits256) : Byte :=
  let c := classOf ((highest isr).getD 0#8)
  if c < classOf tpr then tpr
  else if c = classOf tpr then (if lowZero then c ++ 0#4 else tpr)
  else c ++ 0#4

/-- The default offer (60_exceptions.md R356). -/
def standardOffered (tpr : Byte) (r : IntrRegs) : Option Byte :=
  match highest r.irr with
  | some v => if pprClass tpr r.isr < classOf v then some v else none
  | none => none

/-- The default `eoi()` (60_exceptions.md R357): the highest vector in service ends, and its EOI is broadcast where it
was level-triggered and the broadcast is not suppressed. -/
def standardEoi (suppressed : Bool) (r : IntrRegs) : IntrRegs × Option Byte :=
  match highest r.isr with
  | none => (r, none)
  | some v =>
    ({ r with isr := r.isr &&& ~~~(vecBit v) }, if r.tmr.getLsbD v.toNat && !suppressed then some v else none)

/-- The default of `IntrLogic` (60_exceptions.md R351). -/
def standardLogic : IntrLogic where
  accept := standardAccept
  dispatch := standardDispatch
  ppr := standardPpr
  offered := standardOffered
  eoi := standardEoi

/-- The interrupt logic of a unit (00_scope.md R5, `IntrLogic`; notes/assumptions/5.md). -/
def logicOf : LogicChoice → IntrLogic
  | .standard => standardLogic
  | .other n => Config.otherLogic n

/-! ### Interrupts at the acting unit -/

/-- A held interrupt keeps its local source, where it had one. -/
def Origin.kept : Origin → Origin
  | .sent => .held
  | .held => .held
  | .source x => .source x

/-- The message that stands for a fixed interrupt which the unit `id` has not accepted and holds. -/
def heldMessage (id : W32) (o : Origin) (vec : Byte) (level : Bool) : Msg where
  src := id
  dst := id
  del := 0#3
  vec := vec
  trig := level
  level := true
  origin := o.kept

/-- A fixed interrupt that a software-disabled or Disabled unit does not accept (60_exceptions.md R352). What becomes
of it is not specified (91_not_in_source.md N10): a free truth value decides whether it is held, as a message still in
flight to the unit, or lost. DESIGN CHOICE (notes/assumptions/14.md). -/
def notAccepted (o : Origin) (vec : Byte) (level : Bool) (s : State) : State :=
  if s.freeBool then (s.drew 1).post (heldMessage s.self.x2apicId o vec level) else s.drew 1

/-- An accepted vector is noted in the entry of its local source, where it has one. -/
def Apic.noteRaised (u : Apic) (o : Origin) (vec : Byte) : Apic :=
  match o with
  | .sent => u
  | .held => u
  | .source x => u.withRaised x ((u.lvt x).raised ||| vecBit vec)

/-- `accept(vec, trig)` for a vector of 16 and more (60_exceptions.md R352). -/
def accept (o : Origin) (vec : Byte) (level : Bool) (s : State) : State :=
  if s.self.base.en && s.self.svr.getLsbD 8 then
    s.mapSelf fun u => (u.withRegs ((logicOf u.hw.logic).accept vec level u.regs)).noteRaised o vec
  else notAccepted o vec level s

/-- `esr_pending[b] <- 1`. -/
def setErrorBit (b : Nat) (s : State) : State :=
  s.mapSelf fun u => { u with esrPending := u.esrPending ||| (1#32 <<< b) }

/-- The interrupt of the error entry, edge-triggered (60_exceptions.md R346). With a vector below 16 it is the illegal
vector of R354, which sets bit 6 (R360); setting it again changes nothing. DEDUCED (notes/assumptions/16.md). -/
def errorInterrupt (s : State) : State :=
  let vec := lvtVector s.self.lvtError.reg
  if vec.toNat < 16 then setErrorBit 6 s else accept (.source .error) vec false s

/-- An error condition is detected (60_exceptions.md R345): its bit is set whatever the mask, and the error interrupt
is issued where the error entry is not masked (R346); if an error is already pending, a free truth value decides
whether a second one is issued. -/
def logError (b : Nat) (s : State) : State :=
  let t := setErrorBit b s
  if lvtMasked s.self.lvtError.reg then t
  else if s.self.esrPending = 0#32 then errorInterrupt t
  else if t.freeBool then errorInterrupt (t.drew 1)
  else t.drew 1

/-- A fixed interrupt arrives: accepted (60_exceptions.md R352) or, with a vector below 16, logged as Received Illegal
Vector (R354). -/
def arrive (o : Origin) (vec : Byte) (level : Bool) (s : State) : State :=
  if vec.toNat < 16 then logError 6 s else accept o vec level s

/-- `ppr()` (60_exceptions.md R355), with the choice that rule leaves. -/
def ppr (lowZero : Bool) (u : Apic) : Byte := (logicOf u.hw.logic).ppr lowZero u.tpr u.isr

/-- The vector offered to the core (60_exceptions.md R356). -/
def offered (u : Apic) : Option Byte := (logicOf u.hw.logic).offered u.tpr u.regs

/-- Taking the interrupt of vector `v` (60_exceptions.md R353): the unit's part of trap entry (R361). -/
def dispatch (v : Byte) (s : State) : State :=
  s.mapSelf fun u =>
    { (u.withRegs ((logicOf u.hw.logic).dispatch v u.regs)).unraise v with
      core := { u.core with sampled := false, tprBoundary := false }
      out := u.out ++ [.taken v] }

/-- The broadcast of an EOI is suppressed: `DIRECTED_EOI` and SVR[12] = 1 (60_exceptions.md R357). -/
def suppressesEoi (u : Apic) : Bool := u.hw.directedEoi && u.svr.getLsbD 12

/-- `eoi()` (60_exceptions.md R357): the unit's part of a return from an interrupt handler (R362). -/
def eoi (s : State) : State :=
  let r := (logicOf s.self.hw.logic).eoi (suppressesEoi s.self) s.self.regs
  let t := s.mapSelf fun u => u.withRegs r.1
  match r.2 with
  | some v => t.emit (.eoiBroadcast v)
  | none => t

end Sys2Proof.Machine
end

