-- ==== Sys2Proof/Machine/Cpuid.lean ====
section
/-! DEFINITION. CPUID leaves 01H and 0BH (40_enable_and_mode.md R140; 44_cpuid.md R320 to R323). CPUID raises no
exception, needs no privilege and changes no state of the unit (R320). -/

namespace Sys2Proof.Machine

/-- `CPUID.01H:EBX`: the initial APIC ID in bits 31:24 (44_cpuid.md R321); the other bits are outside the spec. -/
def cpuid01Ebx (p : Params) (free : W32) : W32 := p.x2apicIdHw.extractLsb' 0 8 ++ free.extractLsb' 0 24

/-- `CPUID.01H:ECX`: bit 21 reports x2APIC support (40_enable_and_mode.md R140); the other bits are outside the
spec. -/
def cpuid01Ecx (p : Params) (free : W32) : W32 :=
  (free &&& ~~~0x00200000#32) ||| (if p.x2apicSupported then 0x00200000#32 else 0#32)

/-- `CPUID.01H` (40_enable_and_mode.md R140; 44_cpuid.md R321). The result bits the spec says nothing of are free
values; the sub-leaf is ignored. -/
def execCpuid01h (_subleaf : W32) (s : State) : Outcome :=
  let free (i : Nat) : W32 := (Config.free (s.draws + i)).extractLsb' 0 32
  .next ((s.drew 4).answered
    (.cpuid (free 0) (cpuid01Ebx s.self.hw (free 1)) (cpuid01Ecx s.self.hw (free 2)) (free 3)))

/-- The level of `Cpuid0B` that sub-leaf `n` names, or the level of type 0 where it names none (44_cpuid.md R322). -/
def cpuidLevel (p : Params) (n : W32) : CpuidLevel :=
  (p.cpuid0B.find? fun l => l.number == n).getD { number := n, shift := 0#5, count := 0#16, kind := 0#8 }

/-- `CPUID.0BH` (44_cpuid.md R322, R323). -/
def execCpuid0bh (subleaf : W32) (s : State) : Outcome :=
  let l := cpuidLevel s.self.hw subleaf
  .next (s.answered
    (.cpuid (l.shift.setWidth 32) (l.count.setWidth 32) (0#16 ++ (l.kind ++ subleaf.extractLsb' 0 8))
      s.self.x2apicId))

/-- A CPUID of a leaf that this spec does not describe: CPUID raises no exception (44_cpuid.md R320; 60_exceptions.md
R341), so it completes, with four free values. DESIGN CHOICE (notes/assumptions/40.md). -/
def cpuidOutside (s : State) : Outcome :=
  let free (i : Nat) : W32 := (Config.free (s.draws + i)).extractLsb' 0 32
  .next ((s.drew 4).answered (.cpuid (free 0) (free 1) (free 2) (free 3)))

end Sys2Proof.Machine
end

