-- ==== Sys2Proof/Machine/Interrupts.lean ====
section
/-! DEFINITION. The interrupt logic beyond one acceptance: RESET and INIT of a unit, non-fixed delivery, a local source
firing, sending an inter-processor interrupt and choosing its targets, delivering a message, the timer. -/

namespace Sys2Proof.Machine

/-! ### RESET and INIT -/

/-- RESET of the acting unit (70_reset_and_hazards.md R400): every register at its value of 10_state.md R60, every
message to or from the unit gone. What the unit has already put out stays recorded. -/
def resetSelf (s : State) : State :=
  let id := s.self.x2apicId
  { s with
    self := { apicAtReset s.self.hw (Config.free s.draws) (Config.free (s.draws + 1)) with out := s.self.out }
    inflight := s.inflight.filter fun m => !(m.src == id || m.dst == id)
    draws := s.draws + 2 }

/-- The messages that stay in flight when unit `id` takes an INIT: for each message to it a free truth value, counted
from the `n`-th, decides whether it is dropped (70_reset_and_hazards.md R403). -/
def survivors (id : W32) (n : Nat) : List Msg → List Msg
  | [] => []
  | m :: ms =>
    if m.dst = id ∧ (Config.free n).getLsbD 0 = true then survivors id (n + 1) ms
    else m :: survivors id (n + 1) ms

/-- A unit's registers after INIT outside the Disabled state (70_reset_and_hazards.md R403; 10_state.md R60, column
after INIT): the mode, the base and the IDs are kept, and the core's port is the core's own. -/
def initRegisters (esrDraw pendingDraw : W64) (u : Apic) : Apic :=
  { apicAtReset u.hw esrDraw pendingDraw with
    base := u.base
    xapicId := u.xapicId
    ldr := if u.mode = .x2apic then logicalX2apicId u.x2apicId else 0#32
    core := { u.core with sampled := false, tprBoundary := false }
    out := u.out }

/-- INIT of the acting unit (70_reset_and_hazards.md R403): in the Disabled state nothing of the unit changes. -/
def initSelf (s : State) : State :=
  { s with
    self :=
      if s.self.mode = .disabled then s.self
      else initRegisters (Config.free s.draws) (Config.free (s.draws + 1)) s.self
    inflight := survivors s.self.x2apicId (s.draws + 2) s.inflight
    draws := s.draws + 2 + s.inflight.length }

/-! ### Delivery modes and local sources -/

/-- Delivery mode 000, fixed. -/
def delFixed : BitVec 3 := 0#3

/-- Delivery mode 001, lowest priority (xAPIC mode only, 10_state.md R43). -/
def delLowest : BitVec 3 := 1#3

/-- Delivery mode 101, INIT. -/
def delInit : BitVec 3 := 5#3

/-- A delivery mode an ICR write may not ask for: 011 and 111 (43_registers_icr_to_selfipi.md R267). -/
def delReserved (del : BitVec 3) : Bool := del == 3#3 || del == 7#3

/-- A non-fixed delivery is handed to the core as its event (60_exceptions.md R358). -/
def coreEvent (del : BitVec 3) (vec : Byte) (s : State) : State := s.emit (.coreEvent del vec)

/-- A non-fixed message received by the unit: its event, and an INIT message performs INIT on the unit
(60_exceptions.md R358). -/
def messageEvent (del : BitVec 3) (vec : Byte) (s : State) : State :=
  let t := coreEvent del vec s
  if del = delInit then initSelf t else t

/-- The source of an LVT entry fires (60_exceptions.md R360). A non-fixed one touches no register of the unit, INIT
included (R358); notes/assumptions/24.md for the reserved delivery modes. -/
def fireLvt (x : LvtId) (s : State) : State :=
  let reg := (s.self.lvt x).reg
  if lvtMasked reg then s
  else if lvtDelivery x reg = delFixed then arrive (.source x) (lvtVector reg) (lvtTrigger x reg) s
  else coreEvent (lvtDelivery x reg) (lvtVector reg) s

/-- The unit has the source: LVT_CMCI's only with `HAS_LVT_CMCI` (10_state.md R42). -/
def hasSource (p : Params) : LocalSource → Bool
  | .thermal => true
  | .pmr => true
  | .lint0 => true
  | .lint1 => true
  | .cmci => p.hasLvtCmci

/-! ### Sending -/

/-- Whether unit `u` of the sender's mode is chosen by a destination without shorthand, in x2APIC mode
(43_registers_icr_to_selfipi.md R263, R264). -/
def matchesX2apic (c : Command) (u : Apic) : Bool :=
  c.dest == 0xFFFFFFFF#32
    || (if c.dmode then
          u.ldr.extractLsb' 16 16 == c.dest.extractLsb' 16 16
            && (u.ldr.extractLsb' 0 16 &&& c.dest.extractLsb' 0 16) != 0#16
        else u.x2apicId == c.dest)

/-- Whether unit `u` of the sender's mode is chosen by an 8-bit destination without shorthand, in xAPIC mode: in
physical mode the unit's local xAPIC ID (00_scope.md R12). What logical mode and the destination FFH choose beside
that is not in the spec (91_not_in_source.md N7) and is the truth value `free`. -/
def matchesXapic (free : Bool) (c : Command) (u : Apic) : Bool :=
  if c.dmode then free else u.xapicId == lowByte c.dest || (lowByte c.dest == 0xFF#8 && free)

/-- Whether unit `u` is a target of `c` sent by `sender` (43_registers_icr_to_selfipi.md R263). For a unit in another
mode than the sender's the spec makes no claim (92_eei_decisions.md D10): the truth value `free` decides. -/
def isTarget (free : Bool) (c : Command) (sender : Apic) (isSelf : Bool) (u : Apic) : Bool :=
  if c.sh = 1#2 then isSelf
  else if u.mode ≠ sender.mode then free
  else if c.sh = 2#2 then true
  else if c.sh = 3#2 then !isSelf
  else if sender.mode = .x2apic then matchesX2apic c u
  else matchesXapic free c u

/-- The targets among the other units, each with its own free truth value, counted from the `n`-th. -/
def otherTargets (n : Nat) (c : Command) (sender : Apic) : List Apic → List W32
  | [] => []
  | u :: us =>
    (if isTarget ((Config.free n).getLsbD 0) c sender false u then [u.x2apicId] else [])
      ++ otherTargets (n + 1) c sender us

/-- `targets(s, sh, dmode, dest)` (43_registers_icr_to_selfipi.md R263), as the units' x2APIC IDs. -/
def targets (c : Command) (s : State) : List W32 :=
  (if isTarget s.freeBool c s.self true s.self then [s.self.x2apicId] else [])
    ++ otherTargets (s.draws + 1) c s.self s.others

/-- The message of `c` from unit `src` to unit `dst` (60_exceptions.md R348). -/
def messageTo (c : Command) (src dst : W32) : Msg where
  src := src
  dst := dst
  del := c.del
  vec := c.vec
  trig := c.trig
  level := c.level
  origin := .sent

/-- `send_ipi` (60_exceptions.md R348): one message per target goes in flight, and the call returns at once. -/
def sendIpi (c : Command) (s : State) : State :=
  { s with
    inflight := s.inflight ++ (targets c s).map (messageTo c s.self.x2apicId)
    draws := s.draws + 1 + s.others.length }

/-- A fixed send of a vector below 16 (43_registers_icr_to_selfipi.md R266): logged as Send Illegal Vector, and a free
truth value decides whether the message leaves all the same. -/
def sendIllegalVector (c : Command) (s : State) : State :=
  let t := logError 5 s
  if t.freeBool then sendIpi c (t.drew 1) else t.drew 1

/-- A send whose delivery mode is neither lowest priority nor reserved (43_registers_icr_to_selfipi.md R262). -/
def sendCommand (c : Command) (s : State) : State :=
  if c.del = delFixed ∧ c.vec.toNat < 16 then sendIllegalVector c s else sendIpi c s

/-! ### Delivering -/

/-- A message or a device's interrupt arrives at the acting unit (60_exceptions.md R349, R347). A lowest-priority
message of xAPIC mode is accepted by whichever of its targets wins, which the spec leaves open: a free truth value. -/
def arriveMessage (o : Origin) (del : BitVec 3) (vec : Byte) (trig : Bool) (s : State) : State :=
  if del = delFixed then arrive o vec trig s
  else if del = delLowest then
    if s.freeBool then arrive o vec trig (s.drew 1) else s.drew 1
  else messageEvent del vec s

/-- The acting unit and the `k`-th other one change places. -/
def swapWith (k : Nat) (s : State) : State :=
  match s.others[k]? with
  | none => s
  | some u => { s with self := u, others := s.others.set k s.self }

/-- `f` done at the unit of x2APIC ID `id` (60_exceptions.md R372); at none where no unit has it. -/
def atUnit (id : W32) (f : State → State) (s : State) : State :=
  if s.self.x2apicId = id then f s
  else
    match s.others.findIdx? fun u => u.x2apicId == id with
    | none => s
    | some k => swapWith k (f (swapWith k s))

/-- The delivery agent delivers the message `m`, the `k`-th in flight (60_exceptions.md R349). -/
def deliverMessage (k : Nat) (m : Msg) (s : State) : State :=
  atUnit m.dst (arriveMessage m.origin m.del m.vec m.trig) { s with inflight := s.inflight.eraseIdx k }

/-! ### The timer (60_exceptions.md R365) -/

/-- `timer_start(n)`. -/
def timerStart (n : W32) (u : Apic) : Apic := { u with count := n, running := n != 0#32 }

/-- What follows when a tick brought the count to 0: periodic reload, or one-shot stop. -/
def timerExpired (u : Apic) : Apic :=
  if u.lvtTimer.reg.getLsbD 17 then { u with count := u.timerIcr } else { u with running := false }

/-- One divided tick. A timer that is not running, or has nothing left to count, does not move. The fraction of
10_state.md R74 stays as it is: DESIGN CHOICE, unsafe (notes/assumptions/29.md). -/
def timerTick (s : State) : State :=
  if s.self.running && s.self.count != 0#32 then
    let t := s.mapSelf fun u => { u with count := u.count - 1#32 }
    if t.self.count = 0#32 then (fireLvt .timer t).mapSelf timerExpired else t
  else s

/-- One input clock: the divided tick happens when `divide(TIMER_DCR)` clocks have passed (60_exceptions.md R365). The
fraction of 10_state.md R74 counts the clocks of a running timer and stands still while it is stopped: DESIGN CHOICE,
unsafe (notes/assumptions/29.md). -/
def timerClock (s : State) : State :=
  if s.self.running then
    if divideValue s.self.timerDcr ≤ s.self.frac + 1 then timerTick (s.mapSelf fun u => { u with frac := 0 })
    else s.mapSelf fun u => { u with frac := u.frac + 1 }
  else s

end Sys2Proof.Machine
end

