-- ==== Sys2Proof/Machine/Modes.lean ====
section
/-! DEFINITION. The mode transitions of 40_enable_and_mode.md and what they do to the registers. -/

namespace Sys2Proof.Machine

/-- The timer's pair of registers when both are open: the count is at most TIMER_ICR (60_exceptions.md R365). -/
def boundedCount (icr count : W32) : W32 := if count ≤ icr then count else icr

/-- Every register that a transition to or from Disabled does not preserve takes a free value, in the bits that exist
in xAPIC mode (40_enable_and_mode.md R144, R145, R146; 00_scope.md R9: reserved bits read zero). IRR, ISR and TMR are
0, and an LVT_CMCI that the unit does not have stays as it is (10_state.md R42). The free values are the `n`-th and the
19 after it. -/
def forgetRegisters (n : Nat) (u : Apic) : Apic :=
  let free (i : Nat) : W32 := lowHalf (Config.free (n + i))
  let icr := free 18 &&& ~~~u.hw.rsvd.timerIcr
  let count := boundedCount icr (free 19)
  { u with
    tpr := lowByte (free 0 &&& ~~~u.hw.rsvd.tpr)
    ldr := free 1 &&& topByteBits
    dfr := free 2 ||| dfrOnes
    svr := free 3 &&& svrBitsXapic u.hw
    isr := 0#256
    tmr := 0#256
    irr := 0#256
    esr := free 4 &&& 0x000000FF#32
    esrPending := free 5 &&& 0x000000FF#32
    icr := (free 6 &&& topByteBits) ++ (free 7 &&& icrLowBits u.hw)
    lvtTimer := { reg := free 8 &&& lvtBits u.hw .timer, raised := 0#256 }
    lvtThermal := { reg := free 9 &&& lvtBits u.hw .thermal, raised := 0#256 }
    lvtPmr := { reg := free 10 &&& lvtBits u.hw .pmr, raised := 0#256 }
    lvtLint0 := { reg := free 11 &&& lvtBits u.hw .lint0, raised := 0#256 }
    lvtLint1 := { reg := free 12 &&& lvtBits u.hw .lint1, raised := 0#256 }
    lvtError := { reg := free 13 &&& lvtBits u.hw .error, raised := 0#256 }
    lvtCmci := if u.hw.hasLvtCmci then { reg := free 14 &&& lvtBits u.hw .cmci, raised := 0#256 } else u.lvtCmci
    timerDcr := free 15 &&& timerDcrBits &&& ~~~u.hw.rsvd.timerDcr
    frac := (free 16).toNat
    running := (free 17).getLsbD 0 && count != 0#32
    timerIcr := icr
    count := count }

/-- How many free values `forgetRegisters` uses. -/
def forgetDraws : Nat := 20

/-- Entering x2APIC mode from xAPIC mode (40_enable_and_mode.md R150; 10_state.md R60): the LDR is initialised, an ID
written through MMIO is lost, the ICR's high half takes a free value, every other register keeps its value. That the
timer goes on is the model's choice, unsafe: the count is kept as the cell of R60 has it, against the words of
92_eei_decisions.md D13 (DEDUCED), and so are the run state and the fraction of 10_state.md R74, which no cell names
(DESIGN CHOICE; notes/assumptions/42.md). -/
def enterX2apic (s : State) : State :=
  (s.mapSelf fun u =>
    { u with
      xapicId := u.hw.x2apicIdHw.extractLsb' 0 8
      ldr := logicalX2apicId u.x2apicId
      icr := lowHalf s.freeWord ++ lowHalf u.icr }).drew 1

/-- Entering Disabled (40_enable_and_mode.md R144, R145): the IDs are preserved. -/
def enterDisabled (s : State) : State := (s.mapSelf (forgetRegisters s.draws)).drew forgetDraws

/-- Leaving Disabled for xAPIC mode (40_enable_and_mode.md R146): the ID shows the hardware's low 8 bits. -/
def enterXapic (s : State) : State :=
  (s.mapSelf fun u =>
    { forgetRegisters s.draws u with xapicId := u.hw.x2apicIdHw.extractLsb' 0 8 }).drew forgetDraws

/-- The register effects of a legal transition to `new` (40_enable_and_mode.md R144, R145, R146, R149, R150). -/
def transition (cur new : Mode) (s : State) : State :=
  if new = cur then s
  else
    match new with
    | .x2apic => enterX2apic s
    | .xapic => enterXapic s
    | .disabled => enterDisabled s
    | .invalid => s

/-- A (EN, EXTD) pair the current mode may not be changed to (40_enable_and_mode.md R143, R145, R146). -/
def transitionFaults (cur new : Mode) : Bool :=
  new == .invalid || (cur == .x2apic && new == .xapic) || (cur == .disabled && new == .x2apic)

/-- An interrupt is pending, in service or in flight to the acting unit (70_reset_and_hazards.md R427). -/
def interruptsOutstanding (s : State) : Bool :=
  s.self.irr != 0#256 || s.self.isr != 0#256 || s.inflight.any fun m => m.dst == s.self.x2apicId

/-- The value names the combination EN=0, EXTD=1, which raises GP(0) whatever the state (40_enable_and_mode.md R143). -/
def invalidCombination (val : W64) : Bool := modeOf (val.getLsbD 11) (val.getLsbD 10) == .invalid

/-- The value asks for x2APIC mode without support (40_enable_and_mode.md R147) or for a transition that faults (R143,
R145, R146): GP(0), by the tests of R142 that follow the refusal of a changed BSP bit. -/
def baseWriteFaults (val : W64) (u : Apic) : Bool :=
  (val.getLsbD 10 && !u.hw.x2apicSupported)
    || transitionFaults u.mode (modeOf (val.getLsbD 11) (val.getLsbD 10))

/-- The fields of IA32_APIC_BASE as a legal write stores them (40_enable_and_mode.md R142). -/
def storeBase (val : W64) (u : Apic) : Apic :=
  { u with
    base :=
      { u.base with page := val.extractLsb' 12 52, en := val.getLsbD 11, extd := val.getLsbD 10 } }

/-- The effect of a legal write: the fields, then the registers. -/
def writeBase (val : W64) (s : State) : State :=
  transition s.self.mode (modeOf (val.getLsbD 11) (val.getLsbD 10)) (s.mapSelf (storeBase val))

end Sys2Proof.Machine
end

