-- ==== Sys2Proof/Machine/MsrHigh.lean ====
section
/-! DEFINITION. RDMSR and WRMSR of the registers at 830H to 83FH: ICR, the local vector table, the timer, SELF IPI
(43_registers_icr_to_selfipi.md). -/

namespace Sys2Proof.Machine

/-! ### Interrupt Command Register -/

/-- `RDMSR.ICR`: an open value with the reserved bits zero, fresh at every read (43_registers_icr_to_selfipi.md
R261). -/
def execRdmsrIcr (s : State) : Outcome :=
  rdmsrThen (s.freeWord &&& ~~~(rsvdIcr s.self.hw)) (s.drew 1) s

/-- The command of an ICR write in x2APIC mode (43_registers_icr_to_selfipi.md R262). -/
def icrCommand (val : W64) : Command := commandOf (highHalf val) (lowHalf val)

/-- The write rule of the ICR for a delivery mode that is not reserved: a lowest-priority send is logged and sends
nothing (43_registers_icr_to_selfipi.md R262, R265, R266). -/
def writeIcr (val : W64) (s : State) : State :=
  let t := s.mapSelf fun u => { u with icr := val }
  if (icrCommand val).del = delLowest then logError 4 t else sendCommand (icrCommand val) t

/-- `WRMSR.ICR` (43_registers_icr_to_selfipi.md R262); delivery modes 011 and 111 are refused (R267). -/
def execWrmsrIcr (val : W64) (s : State) : Outcome :=
  if msrOpen s && val &&& rsvdIcr s.self.hw == 0#64 && delReserved (icrCommand val).del then
    .refused .reservedDeliveryMode
  else wrmsr (rsvdIcr s.self.hw) val (writeIcr val) s

/-! ### Local vector table: one shape (43_registers_icr_to_selfipi.md, section 2) -/

/-- `RDMSR.LVT_x`. -/
def readLvt (x : LvtId) (s : State) : Outcome :=
  rdmsrThen (zext64 (lvtWord x s.freeWord s) &&& ~~~(rsvdLvt s.self.hw x)) (s.drew 1) s

/-- The bits that raise GP(0) when written as 1: the reserved ones, and the read-only status bits where
`RO_BIT_WRITE` is `fault` (41_msr_access.md R180). -/
def faultingLvtBits (x : LvtId) (p : Params) : W64 :=
  rsvdLvt p x ||| (if p.roBitWrite = .fault then zext64 (lvtRo x) else 0#64)

/-- The write rule of an LVT register: its writable bits are stored. -/
def storeLvt (x : LvtId) (v : W32) (s : State) : State :=
  s.mapSelf fun u => u.withLvt x { u.lvt x with reg := v &&& lvtWr x }

/-- `WRMSR.LVT_x`. -/
def writeLvt (x : LvtId) (val : W64) (s : State) : Outcome :=
  wrmsr (faultingLvtBits x s.self.hw) val (storeLvt x (lowHalf val)) s

/-- `RDMSR.LVT_TIMER` (43_registers_icr_to_selfipi.md R271). -/
def execRdmsrLvtTimer (s : State) : Outcome := readLvt .timer s

/-- `WRMSR.LVT_TIMER` (43_registers_icr_to_selfipi.md R272). -/
def execWrmsrLvtTimer (val : W64) (s : State) : Outcome := writeLvt .timer val s

/-- `RDMSR.LVT_THERMAL` (43_registers_icr_to_selfipi.md R273). -/
def execRdmsrLvtThermal (s : State) : Outcome := readLvt .thermal s

/-- `WRMSR.LVT_THERMAL` (43_registers_icr_to_selfipi.md R274). -/
def execWrmsrLvtThermal (val : W64) (s : State) : Outcome := writeLvt .thermal val s

/-- `RDMSR.LVT_PMR` (43_registers_icr_to_selfipi.md R275). -/
def execRdmsrLvtPmr (s : State) : Outcome := readLvt .pmr s

/-- `WRMSR.LVT_PMR` (43_registers_icr_to_selfipi.md R276). -/
def execWrmsrLvtPmr (val : W64) (s : State) : Outcome := writeLvt .pmr val s

/-- `RDMSR.LVT_LINT0` (43_registers_icr_to_selfipi.md R277). -/
def execRdmsrLvtLint0 (s : State) : Outcome := readLvt .lint0 s

/-- `WRMSR.LVT_LINT0` (43_registers_icr_to_selfipi.md R278). -/
def execWrmsrLvtLint0 (val : W64) (s : State) : Outcome := writeLvt .lint0 val s

/-- `RDMSR.LVT_LINT1` (43_registers_icr_to_selfipi.md R279). -/
def execRdmsrLvtLint1 (s : State) : Outcome := readLvt .lint1 s

/-- `WRMSR.LVT_LINT1` (43_registers_icr_to_selfipi.md R280). -/
def execWrmsrLvtLint1 (val : W64) (s : State) : Outcome := writeLvt .lint1 val s

/-- `RDMSR.LVT_ERROR` (43_registers_icr_to_selfipi.md R281). -/
def execRdmsrLvtError (s : State) : Outcome := readLvt .error s

/-- `WRMSR.LVT_ERROR` (43_registers_icr_to_selfipi.md R282). -/
def execWrmsrLvtError (val : W64) (s : State) : Outcome := writeLvt .error val s

/-! ### Timer -/

/-- `RDMSR.TIMER_ICR` (43_registers_icr_to_selfipi.md R283). -/
def execRdmsrTimerIcr (s : State) : Outcome :=
  rdmsrMasked (rsvdTimerIcr s.self.hw) (zext64 s.self.timerIcr) s

/-- The write rule of TIMER_ICR: the value is stored and the count-down starts from it (R284, 60_exceptions.md
R365). -/
def writeTimerIcr (v : W32) (s : State) : State := s.mapSelf fun u => timerStart v { u with timerIcr := v }

/-- `WRMSR.TIMER_ICR` (43_registers_icr_to_selfipi.md R284). -/
def execWrmsrTimerIcr (val : W64) (s : State) : Outcome :=
  wrmsr (rsvdTimerIcr s.self.hw) val (writeTimerIcr (lowHalf val)) s

/-- `RDMSR.TIMER_CCR` (43_registers_icr_to_selfipi.md R285). -/
def execRdmsrTimerCcr (s : State) : Outcome := rdmsr (zext64 s.self.count) s

/-- `WRMSR.TIMER_CCR`: read-only (43_registers_icr_to_selfipi.md R286). -/
def execWrmsrTimerCcr (_val : W64) (s : State) : Outcome := alwaysGP s

/-- `RDMSR.TIMER_DCR` (43_registers_icr_to_selfipi.md R288). -/
def execRdmsrTimerDcr (s : State) : Outcome :=
  rdmsrMasked (rsvdTimerDcr s.self.hw) (zext64 (s.self.timerDcr &&& timerDcrBits)) s

/-- The write rule of TIMER_DCR. -/
def writeTimerDcr (v : W32) (s : State) : State := s.mapSelf fun u => { u with timerDcr := v }

/-- `WRMSR.TIMER_DCR` (43_registers_icr_to_selfipi.md R289). -/
def execWrmsrTimerDcr (val : W64) (s : State) : Outcome :=
  wrmsr (rsvdTimerDcr s.self.hw) val (writeTimerDcr (lowHalf val)) s

/-! ### SELF IPI -/

/-- `RDMSR.SELF_IPI`: write-only (43_registers_icr_to_selfipi.md R300). -/
def execRdmsrSelfIpi (s : State) : Outcome := alwaysGP s

/-- `WRMSR.SELF_IPI` (43_registers_icr_to_selfipi.md R301). -/
def execWrmsrSelfIpi (val : W64) (s : State) : Outcome :=
  wrmsr (rsvdSelfIpi s.self.hw) val (sendCommand (selfCommand (val.extractLsb' 0 8))) s

end Sys2Proof.Machine
end

