-- ==== Sys2Proof/Machine/Mmio.lean ====
section
/-! DEFINITION. What every LOAD and STORE of xAPIC mode shares (41_msr_access.md R190 to R193). -/

namespace Sys2Proof.Machine

/-- An MMIO access of the acting unit's page: refused outside xAPIC mode (41_msr_access.md R193) and for another page,
which is not the unit's (30_encoding.md R113). It raises no exception (41_msr_access.md R190, R191). -/
def mmio (page : PageNo) (effect : State → State) (s : State) : Outcome :=
  if s.self.mode ≠ .xapic then .refused .mmioOutsideXapicMode
  else if page ≠ s.self.base.page then .refused .notTheApicPage
  else .next (effect s)

/-- A LOAD that answers `val`. -/
def load (page : PageNo) (val : W32) (s : State) : Outcome := mmio page (State.answered (.data val)) s

/-- A STORE with this write rule. -/
def store (page : PageNo) (effect : State → State) (s : State) : Outcome :=
  mmio page (fun t => (effect t).answered .done) s

/-- The answer to a LOAD of a free value (41_msr_access.md R175; 10_state.md R55). -/
def answerFree (s : State) : State := (s.drew 1).answered (.data (lowHalf s.freeWord))

/-- An illegal LOAD: logged as Illegal Register Address, and the value is free (41_msr_access.md R175, R190). -/
def illegalLoad (s : State) : State := answerFree (logError 7 s)

/-- An illegal STORE: logged as Illegal Register Address, nothing written (41_msr_access.md R175, R191). -/
def illegalStore (page : PageNo) (s : State) : Outcome := store page (logError 7) s

/-- A LOAD of an LVT register. -/
def loadLvt (page : PageNo) (x : LvtId) (s : State) : Outcome :=
  mmio page (fun t => (t.drew 1).answered (.data (lvtWord x t.freeWord t))) s

end Sys2Proof.Machine
end

