-- ==== Sys2Proof/Machine/MmioLoad.lean ====
section
/-! DEFINITION. The LOAD operations of xAPIC mode, one per register of the MMIO page (41_msr_access.md R190). -/

namespace Sys2Proof.Machine

/-- `LOAD.ID`: the local xAPIC ID in bits 31:24 (41_msr_access.md R190; 10_state.md R30). -/
def execLoadId (page : PageNo) (s : State) : Outcome := load page s.self.idXapic s

/-- `LOAD.VER` (41_msr_access.md R190; 10_state.md R31). -/
def execLoadVer (page : PageNo) (s : State) : Outcome := load page (versionOf s.self.hw) s

/-- `LOAD.TPR` (41_msr_access.md R190; 10_state.md R32). -/
def execLoadTpr (page : PageNo) (s : State) : Outcome := load page (s.self.tpr.setWidth 32) s

/-- `LOAD.APR`: a register without specified semantics, the value is free (10_state.md R55). -/
def execLoadApr (page : PageNo) (s : State) : Outcome := mmio page answerFree s

/-- `LOAD.PPR` (41_msr_access.md R190; 60_exceptions.md R355). -/
def execLoadPpr (page : PageNo) (s : State) : Outcome :=
  mmio page (fun t => (t.drew 1).answered (.data ((ppr t.freeBool t.self).setWidth 32))) s

/-- `LOAD.EOI`: a write-only register, an illegal access (41_msr_access.md R190). -/
def execLoadEoi (page : PageNo) (s : State) : Outcome := mmio page illegalLoad s

/-- `LOAD.RRR`: a register without specified semantics, the value is free (10_state.md R55). -/
def execLoadRrr (page : PageNo) (s : State) : Outcome := mmio page answerFree s

/-- `LOAD.LDR`: the software-written logical xAPIC ID in bits 31:24 (41_msr_access.md R190; 10_state.md R35). -/
def execLoadLdr (page : PageNo) (s : State) : Outcome := load page s.self.ldr s

/-- `LOAD.DFR` (41_msr_access.md R190; 10_state.md R36). -/
def execLoadDfr (page : PageNo) (s : State) : Outcome := load page s.self.dfr s

/-- `LOAD.SVR` (41_msr_access.md R190; 10_state.md R37). -/
def execLoadSvr (page : PageNo) (s : State) : Outcome := load page s.self.svr s

/-- `LOAD.ESR` (41_msr_access.md R190; 10_state.md R41). -/
def execLoadEsr (page : PageNo) (s : State) : Outcome := load page s.self.esr s

/-- `LOAD.LVT_TIMER` (41_msr_access.md R190; 10_state.md R44). -/
def execLoadLvtTimer (page : PageNo) (s : State) : Outcome := loadLvt page .timer s

/-- `LOAD.LVT_THERMAL` (41_msr_access.md R190; 10_state.md R45). -/
def execLoadLvtThermal (page : PageNo) (s : State) : Outcome := loadLvt page .thermal s

/-- `LOAD.LVT_PMR` (41_msr_access.md R190; 10_state.md R46). -/
def execLoadLvtPmr (page : PageNo) (s : State) : Outcome := loadLvt page .pmr s

/-- `LOAD.LVT_LINT0` (41_msr_access.md R190; 10_state.md R47). -/
def execLoadLvtLint0 (page : PageNo) (s : State) : Outcome := loadLvt page .lint0 s

/-- `LOAD.LVT_LINT1` (41_msr_access.md R190; 10_state.md R48). -/
def execLoadLvtLint1 (page : PageNo) (s : State) : Outcome := loadLvt page .lint1 s

/-- `LOAD.LVT_ERROR` (41_msr_access.md R190; 10_state.md R49). -/
def execLoadLvtError (page : PageNo) (s : State) : Outcome := loadLvt page .error s

/-- `LOAD.TIMER_ICR` (41_msr_access.md R190; 10_state.md R50). -/
def execLoadTimerIcr (page : PageNo) (s : State) : Outcome := load page s.self.timerIcr s

/-- `LOAD.TIMER_CCR` (41_msr_access.md R190; 10_state.md R51). -/
def execLoadTimerCcr (page : PageNo) (s : State) : Outcome := load page s.self.count s

/-- `LOAD.TIMER_DCR` (41_msr_access.md R190; 10_state.md R52). -/
def execLoadTimerDcr (page : PageNo) (s : State) : Outcome := load page s.self.timerDcr s

/-- `LOAD.ISRk` (41_msr_access.md R190; 10_state.md R38). -/
def execLoadIsrk (page : PageNo) (k : BitVec 3) (s : State) : Outcome := load page (bank s.self.isr k) s

/-- `LOAD.TMRk` (41_msr_access.md R190; 10_state.md R39). -/
def execLoadTmrk (page : PageNo) (k : BitVec 3) (s : State) : Outcome := load page (bank s.self.tmr k) s

/-- `LOAD.IRRk` (41_msr_access.md R190; 10_state.md R40). -/
def execLoadIrrk (page : PageNo) (k : BitVec 3) (s : State) : Outcome := load page (bank s.self.irr k) s

/-- `LOAD.ICR_LO`: ICR[31:0] with the delivery status in bit 12 (41_msr_access.md R190; 10_state.md R73). -/
def execLoadIcrLo (page : PageNo) (s : State) : Outcome := load page (icrLowXapic s) s

/-- `LOAD.ICR_HI`: ICR[63:32] (41_msr_access.md R190). -/
def execLoadIcrHi (page : PageNo) (s : State) : Outcome := load page (highHalf s.self.icr) s

/-- `LOAD.reserved`: an illegal access (41_msr_access.md R175, R190), but for LVT_CMCI at 02F0H where `HAS_LVT_CMCI`
(10_state.md R42). -/
def execLoadReserved (page : PageNo) (slot : Byte) (s : State) : Outcome :=
  if slot = 0x2F#8 ∧ s.self.hw.hasLvtCmci = true then loadLvt page .cmci s else mmio page illegalLoad s

end Sys2Proof.Machine
end

