-- ==== Sys2Proof/Machine/MsrLow.lean ====
section
/-! DEFINITION. RDMSR and WRMSR of the registers at 802H to 828H: ID, VER, TPR, PPR, EOI, LDR, SVR, ISR, TMR, IRR, ESR
(42_registers_id_to_esr.md). -/

namespace Sys2Proof.Machine

/-- `RDMSR.ID` (42_registers_id_to_esr.md R200). -/
def execRdmsrId (s : State) : Outcome := rdmsr (zext64 s.self.x2apicId) s

/-- `WRMSR.ID`: read-only (42_registers_id_to_esr.md R201). -/
def execWrmsrId (_val : W64) (s : State) : Outcome := alwaysGP s

/-- `RDMSR.VER` (42_registers_id_to_esr.md R202). -/
def execRdmsrVer (s : State) : Outcome := rdmsr (zext64 (versionOf s.self.hw)) s

/-- `WRMSR.VER`: read-only (42_registers_id_to_esr.md R203). -/
def execWrmsrVer (_val : W64) (s : State) : Outcome := alwaysGP s

/-- `RDMSR.TPR` (42_registers_id_to_esr.md R210). -/
def execRdmsrTpr (s : State) : Outcome :=
  rdmsrMasked (rsvdTpr s.self.hw) (zext64 (s.self.tpr.setWidth 32)) s

/-- The write rule of TPR: the new priority, whose offer is definite before the core's next instruction
(42_registers_id_to_esr.md R211). -/
def writeTpr (v : Byte) (s : State) : State :=
  s.mapSelf fun u => { u with tpr := v, core := { u.core with tprBoundary := true } }

/-- `WRMSR.TPR` (42_registers_id_to_esr.md R211). -/
def execWrmsrTpr (val : W64) (s : State) : Outcome :=
  wrmsr (rsvdTpr s.self.hw) val (writeTpr (val.extractLsb' 0 8)) s

/-- `RDMSR.PPR` (42_registers_id_to_esr.md R215). -/
def execRdmsrPpr (s : State) : Outcome :=
  rdmsrThen (zext64 ((ppr s.freeBool s.self).setWidth 32)) (s.drew 1) s

/-- `WRMSR.PPR`: read-only (42_registers_id_to_esr.md R216). -/
def execWrmsrPpr (_val : W64) (s : State) : Outcome := alwaysGP s

/-- `RDMSR.EOI`: write-only (42_registers_id_to_esr.md R220). -/
def execRdmsrEoi (s : State) : Outcome := alwaysGP s

/-- `WRMSR.EOI`: only zero may be written (42_registers_id_to_esr.md R221). -/
def execWrmsrEoi (val : W64) (s : State) : Outcome := wrmsr rsvdEoi val eoi s

/-- `RDMSR.LDR` (42_registers_id_to_esr.md R230). -/
def execRdmsrLdr (s : State) : Outcome := rdmsr (zext64 s.self.ldr) s

/-- `WRMSR.LDR`: read-only in x2APIC mode (42_registers_id_to_esr.md R232). -/
def execWrmsrLdr (_val : W64) (s : State) : Outcome := alwaysGP s

/-- `RDMSR.SVR` (42_registers_id_to_esr.md R235). -/
def execRdmsrSvr (s : State) : Outcome :=
  rdmsrMasked (rsvdSvr s.self.hw) (zext64 s.self.svr) s

/-- The write rule of SVR. Software-disabling the unit (bit 8 = 0) changes no other register, and the unit still sends
interrupts: the spec leaves its effects open (42_registers_id_to_esr.md R236; 91_not_in_source.md N10). DESIGN CHOICE,
unsafe (notes/assumptions/41.md). -/
def writeSvr (v : W32) (s : State) : State := s.mapSelf fun u => { u with svr := v }

/-- `WRMSR.SVR` (42_registers_id_to_esr.md R236). -/
def execWrmsrSvr (val : W64) (s : State) : Outcome := wrmsr (rsvdSvr s.self.hw) val (writeSvr (lowHalf val)) s

/-- `RDMSR.ISRk` (42_registers_id_to_esr.md R240). -/
def execRdmsrIsrk (k : BitVec 3) (s : State) : Outcome := rdmsr (zext64 (bank s.self.isr k)) s

/-- `WRMSR.ISRk`: read-only (42_registers_id_to_esr.md R241). -/
def execWrmsrIsrk (_k : BitVec 3) (_val : W64) (s : State) : Outcome := alwaysGP s

/-- `RDMSR.TMRk` (42_registers_id_to_esr.md R242). -/
def execRdmsrTmrk (k : BitVec 3) (s : State) : Outcome := rdmsr (zext64 (bank s.self.tmr k)) s

/-- `WRMSR.TMRk`: read-only (42_registers_id_to_esr.md R243). -/
def execWrmsrTmrk (_k : BitVec 3) (_val : W64) (s : State) : Outcome := alwaysGP s

/-- `RDMSR.IRRk` (42_registers_id_to_esr.md R244). -/
def execRdmsrIrrk (k : BitVec 3) (s : State) : Outcome := rdmsr (zext64 (bank s.self.irr k)) s

/-- `WRMSR.IRRk`: read-only (42_registers_id_to_esr.md R245). -/
def execWrmsrIrrk (_k : BitVec 3) (_val : W64) (s : State) : Outcome := alwaysGP s

/-- `RDMSR.ESR`: the errors the last ESR write latched (42_registers_id_to_esr.md R250). -/
def execRdmsrEsr (s : State) : Outcome := rdmsr (zext64 (s.self.esr &&& esrVisible)) s

/-- The write rule of ESR: latch what was detected since the last write, and clear it (42_registers_id_to_esr.md
R251). -/
def latchEsr (s : State) : State := s.mapSelf fun u => { u with esr := u.esrPending, esrPending := 0#32 }

/-- `WRMSR.ESR`: only zero may be written (42_registers_id_to_esr.md R251). -/
def execWrmsrEsr (val : W64) (s : State) : Outcome := wrmsr rsvdEsr val latchEsr s

end Sys2Proof.Machine
end

