-- ==== Sys2Proof/Machine/MmioStore.lean ====
section
/-! DEFINITION. The STORE operations of xAPIC mode, one per register of the MMIO page (41_msr_access.md R191, R192).
Reserved bits written are discarded (R191); a store to a read-only register or a reserved offset is logged (R175). -/

namespace Sys2Proof.Machine

/-- `STORE.ID`: the local xAPIC ID, bits 31:24 (41_msr_access.md R191; 40_enable_and_mode.md R150 (c)). DEDUCED,
unsafe (notes/assumptions/17.md). -/
def execStoreId (page : PageNo) (val : W32) (s : State) : Outcome :=
  store page (State.mapSelf fun u => { u with xapicId := val.extractLsb' 24 8 }) s

/-- `STORE.VER`: read-only (41_msr_access.md R191). -/
def execStoreVer (page : PageNo) (_val : W32) (s : State) : Outcome := illegalStore page s

/-- `STORE.TPR` (41_msr_access.md R191; 42_registers_id_to_esr.md R211). -/
def execStoreTpr (page : PageNo) (val : W32) (s : State) : Outcome :=
  store page (writeTpr (lowByte (val &&& ~~~s.self.hw.rsvd.tpr))) s

/-- `STORE.APR`: read-only (41_msr_access.md R191; 10_state.md R55). -/
def execStoreApr (page : PageNo) (_val : W32) (s : State) : Outcome := illegalStore page s

/-- `STORE.PPR`: read-only (41_msr_access.md R191). -/
def execStorePpr (page : PageNo) (_val : W32) (s : State) : Outcome := illegalStore page s

/-- `STORE.EOI`: any value signals an EOI (41_msr_access.md R191). -/
def execStoreEoi (page : PageNo) (_val : W32) (s : State) : Outcome := store page eoi s

/-- `STORE.RRR`: read-only (41_msr_access.md R191; 10_state.md R55). -/
def execStoreRrr (page : PageNo) (_val : W32) (s : State) : Outcome := illegalStore page s

/-- `STORE.LDR`: the logical xAPIC ID, bits 31:24 (41_msr_access.md R191; 10_state.md R35). -/
def execStoreLdr (page : PageNo) (val : W32) (s : State) : Outcome :=
  store page (State.mapSelf fun u => { u with ldr := val &&& topByteBits }) s

/-- `STORE.DFR`: the model, bits 31:28, and ones below (41_msr_access.md R191; 10_state.md R36). -/
def execStoreDfr (page : PageNo) (val : W32) (s : State) : Outcome :=
  store page (State.mapSelf fun u => { u with dfr := val ||| dfrOnes }) s

/-- `STORE.SVR`: the bits that exist in xAPIC mode (41_msr_access.md R191; 10_state.md R37). -/
def execStoreSvr (page : PageNo) (val : W32) (s : State) : Outcome :=
  store page (writeSvr (val &&& svrBitsXapic s.self.hw)) s

/-- `STORE.ESR`: any value latches the errors (41_msr_access.md R191). -/
def execStoreEsr (page : PageNo) (_val : W32) (s : State) : Outcome := store page latchEsr s

/-- A STORE of an LVT register: reserved bits are discarded, then the write rule of the register. -/
def storeLvtXapic (page : PageNo) (x : LvtId) (val : W32) (s : State) : Outcome :=
  store page (storeLvt x (val &&& lvtBits s.self.hw x)) s

/-- `STORE.LVT_TIMER` (41_msr_access.md R191; 10_state.md R44). -/
def execStoreLvtTimer (page : PageNo) (val : W32) (s : State) : Outcome := storeLvtXapic page .timer val s

/-- `STORE.LVT_THERMAL` (41_msr_access.md R191; 10_state.md R45). -/
def execStoreLvtThermal (page : PageNo) (val : W32) (s : State) : Outcome := storeLvtXapic page .thermal val s

/-- `STORE.LVT_PMR` (41_msr_access.md R191; 10_state.md R46). -/
def execStoreLvtPmr (page : PageNo) (val : W32) (s : State) : Outcome := storeLvtXapic page .pmr val s

/-- `STORE.LVT_LINT0` (41_msr_access.md R191; 10_state.md R47). -/
def execStoreLvtLint0 (page : PageNo) (val : W32) (s : State) : Outcome := storeLvtXapic page .lint0 val s

/-- `STORE.LVT_LINT1` (41_msr_access.md R191; 10_state.md R48). -/
def execStoreLvtLint1 (page : PageNo) (val : W32) (s : State) : Outcome := storeLvtXapic page .lint1 val s

/-- `STORE.LVT_ERROR` (41_msr_access.md R191; 10_state.md R49). -/
def execStoreLvtError (page : PageNo) (val : W32) (s : State) : Outcome := storeLvtXapic page .error val s

/-- `STORE.TIMER_ICR`: stored, and the count-down starts (41_msr_access.md R191; 60_exceptions.md R365). -/
def execStoreTimerIcr (page : PageNo) (val : W32) (s : State) : Outcome :=
  store page (writeTimerIcr (val &&& ~~~s.self.hw.rsvd.timerIcr)) s

/-- `STORE.TIMER_CCR`: read-only (41_msr_access.md R191). -/
def execStoreTimerCcr (page : PageNo) (_val : W32) (s : State) : Outcome := illegalStore page s

/-- `STORE.TIMER_DCR` (41_msr_access.md R191; 10_state.md R52). -/
def execStoreTimerDcr (page : PageNo) (val : W32) (s : State) : Outcome :=
  store page (writeTimerDcr (val &&& ~~~s.self.hw.rsvd.timerDcr)) s

/-- `STORE.ISRk`: read-only (41_msr_access.md R191). -/
def execStoreIsrk (page : PageNo) (_k : BitVec 3) (_val : W32) (s : State) : Outcome := illegalStore page s

/-- `STORE.TMRk`: read-only (41_msr_access.md R191). -/
def execStoreTmrk (page : PageNo) (_k : BitVec 3) (_val : W32) (s : State) : Outcome := illegalStore page s

/-- `STORE.IRRk`: read-only (41_msr_access.md R191). -/
def execStoreIrrk (page : PageNo) (_k : BitVec 3) (_val : W32) (s : State) : Outcome := illegalStore page s

/-- The command of a store to the ICR's low half: the 8-bit destination stands in the current high half
(41_msr_access.md R192; 10_state.md R43). -/
def icrCommandXapic (val : W32) (u : Apic) : Command :=
  commandOf ((u.icr.extractLsb' 56 8).setWidth 32) (val &&& icrLowBits u.hw)

/-- The write rule of the ICR's low half for a delivery mode that is not reserved (41_msr_access.md R192). Whether a
lowest-priority send of xAPIC mode is sent or is the unsupported send of 43_registers_icr_to_selfipi.md R265 is a free
truth value. -/
def writeIcrLow (val : W32) (s : State) : State :=
  let c := icrCommandXapic val s.self
  let t := s.mapSelf fun u => { u with icr := highHalf u.icr ++ (val &&& icrLowBits u.hw) }
  if c.del = delLowest then (if t.freeBool then sendIpi c (t.drew 1) else logError 4 (t.drew 1))
  else sendCommand c t

/-- `STORE.ICR_LO`: stores the command and sends (41_msr_access.md R192); delivery modes 011 and 111 are refused
(43_registers_icr_to_selfipi.md R267). -/
def execStoreIcrLo (page : PageNo) (val : W32) (s : State) : Outcome :=
  if s.self.mode = .xapic ∧ page = s.self.base.page ∧ delReserved (icrCommandXapic val s.self).del = true then
    .refused .reservedDeliveryMode
  else store page (writeIcrLow val) s

/-- `STORE.ICR_HI`: sets the destination field only (41_msr_access.md R192). -/
def execStoreIcrHi (page : PageNo) (val : W32) (s : State) : Outcome :=
  store page (State.mapSelf fun u => { u with icr := (val &&& topByteBits) ++ lowHalf u.icr }) s

/-- `STORE.reserved`: an illegal access (41_msr_access.md R175, R191), but for LVT_CMCI at 02F0H where `HAS_LVT_CMCI`
(10_state.md R42). -/
def execStoreReserved (page : PageNo) (slot : Byte) (val : W32) (s : State) : Outcome :=
  if slot = 0x2F#8 ∧ s.self.hw.hasLvtCmci = true then storeLvtXapic page .cmci val s else illegalStore page s

end Sys2Proof.Machine
end

