-- ==== Sys2Proof/Machine/MsrBase.lean ====
section
/-! DEFINITION. RDMSR and WRMSR of IA32_APIC_BASE (40_enable_and_mode.md R141 to R150). It is none of the unit's own
registers, so only the privilege is checked first, in every mode. -/

namespace Sys2Proof.Machine

/-- `RDMSR.IA32_APIC_BASE` (40_enable_and_mode.md R141). -/
def execRdmsrIa32ApicBase (s : State) : Outcome :=
  .next (if s.self.core.cpl = 0#2 then s.answered (.value s.self.base.word) else raiseGP s)

/-- `WRMSR.IA32_APIC_BASE`: the tests in the order of 40_enable_and_mode.md R142, but that the combination EN=0, EXTD=1
is tested before BSP, because it raises GP(0) whatever the state (R143; notes/assumptions/36.md). -/
def execWrmsrIa32ApicBase (val : W64) (s : State) : Outcome :=
  if s.self.core.cpl ≠ 0#2 then .next (raiseGP s)
  else if val &&& rsvdApicBase s.self.hw ≠ 0#64 then .next (raiseGP s)
  else if invalidCombination val then .next (raiseGP s)
  else if val.getLsbD 8 ≠ s.self.base.bsp then .refused .bspFlagChange
  else if baseWriteFaults val s.self then .next (raiseGP s)
  else if modeOf (val.getLsbD 11) (val.getLsbD 10) ≠ s.self.mode ∧ interruptsOutstanding s = true then
    .refused .pendingAtModeChange
  else .next ((writeBase val s).answered .done)

end Sys2Proof.Machine
end

