-- ==== Sys2Proof/Machine/MsrReserved.lean ====
section
/-! DEFINITION. RDMSR and WRMSR of the reserved MSR addresses of 800H to BFFH (10_state.md R54): each raises GP(0)
(41_msr_access.md R174). Address 82FH is the LVT_CMCI register where `HAS_LVT_CMCI` (10_state.md R42). -/

namespace Sys2Proof.Machine

/-- `RDMSR.reserved_800` (42_registers_id_to_esr.md R205). -/
def execRdmsrReserved800 (s : State) : Outcome := alwaysGP s

/-- `WRMSR.reserved_800` (42_registers_id_to_esr.md R205). -/
def execWrmsrReserved800 (_val : W64) (s : State) : Outcome := alwaysGP s

/-- `RDMSR.reserved_801` (42_registers_id_to_esr.md R205). -/
def execRdmsrReserved801 (s : State) : Outcome := alwaysGP s

/-- `WRMSR.reserved_801` (42_registers_id_to_esr.md R205). -/
def execWrmsrReserved801 (_val : W64) (s : State) : Outcome := alwaysGP s

/-- `RDMSR.reserved_804` (42_registers_id_to_esr.md R205). -/
def execRdmsrReserved804 (s : State) : Outcome := alwaysGP s

/-- `WRMSR.reserved_804` (42_registers_id_to_esr.md R205). -/
def execWrmsrReserved804 (_val : W64) (s : State) : Outcome := alwaysGP s

/-- `RDMSR.reserved_805` (42_registers_id_to_esr.md R205). -/
def execRdmsrReserved805 (s : State) : Outcome := alwaysGP s

/-- `WRMSR.reserved_805` (42_registers_id_to_esr.md R205). -/
def execWrmsrReserved805 (_val : W64) (s : State) : Outcome := alwaysGP s

/-- `RDMSR.reserved_806` (42_registers_id_to_esr.md R205). -/
def execRdmsrReserved806 (s : State) : Outcome := alwaysGP s

/-- `WRMSR.reserved_806` (42_registers_id_to_esr.md R205). -/
def execWrmsrReserved806 (_val : W64) (s : State) : Outcome := alwaysGP s

/-- `RDMSR.reserved_807` (42_registers_id_to_esr.md R205). -/
def execRdmsrReserved807 (s : State) : Outcome := alwaysGP s

/-- `WRMSR.reserved_807` (42_registers_id_to_esr.md R205). -/
def execWrmsrReserved807 (_val : W64) (s : State) : Outcome := alwaysGP s

/-- `RDMSR.reserved_809` (42_registers_id_to_esr.md R225). -/
def execRdmsrReserved809 (s : State) : Outcome := alwaysGP s

/-- `WRMSR.reserved_809` (42_registers_id_to_esr.md R225). -/
def execWrmsrReserved809 (_val : W64) (s : State) : Outcome := alwaysGP s

/-- `RDMSR.reserved_80C` (42_registers_id_to_esr.md R225). -/
def execRdmsrReserved80C (s : State) : Outcome := alwaysGP s

/-- `WRMSR.reserved_80C` (42_registers_id_to_esr.md R225). -/
def execWrmsrReserved80C (_val : W64) (s : State) : Outcome := alwaysGP s

/-- `RDMSR.reserved_80E` (42_registers_id_to_esr.md R233). -/
def execRdmsrReserved80E (s : State) : Outcome := alwaysGP s

/-- `WRMSR.reserved_80E` (42_registers_id_to_esr.md R233). -/
def execWrmsrReserved80E (_val : W64) (s : State) : Outcome := alwaysGP s

/-- `RDMSR.reserved_829` (42_registers_id_to_esr.md R255). -/
def execRdmsrReserved829 (s : State) : Outcome := alwaysGP s

/-- `WRMSR.reserved_829` (42_registers_id_to_esr.md R255). -/
def execWrmsrReserved829 (_val : W64) (s : State) : Outcome := alwaysGP s

/-- `RDMSR.reserved_82A` (42_registers_id_to_esr.md R255). -/
def execRdmsrReserved82A (s : State) : Outcome := alwaysGP s

/-- `WRMSR.reserved_82A` (42_registers_id_to_esr.md R255). -/
def execWrmsrReserved82A (_val : W64) (s : State) : Outcome := alwaysGP s

/-- `RDMSR.reserved_82B` (42_registers_id_to_esr.md R255). -/
def execRdmsrReserved82B (s : State) : Outcome := alwaysGP s

/-- `WRMSR.reserved_82B` (42_registers_id_to_esr.md R255). -/
def execWrmsrReserved82B (_val : W64) (s : State) : Outcome := alwaysGP s

/-- `RDMSR.reserved_82C` (42_registers_id_to_esr.md R255). -/
def execRdmsrReserved82C (s : State) : Outcome := alwaysGP s

/-- `WRMSR.reserved_82C` (42_registers_id_to_esr.md R255). -/
def execWrmsrReserved82C (_val : W64) (s : State) : Outcome := alwaysGP s

/-- `RDMSR.reserved_82D` (42_registers_id_to_esr.md R255). -/
def execRdmsrReserved82D (s : State) : Outcome := alwaysGP s

/-- `WRMSR.reserved_82D` (42_registers_id_to_esr.md R255). -/
def execWrmsrReserved82D (_val : W64) (s : State) : Outcome := alwaysGP s

/-- `RDMSR.reserved_82E` (42_registers_id_to_esr.md R255). -/
def execRdmsrReserved82E (s : State) : Outcome := alwaysGP s

/-- `WRMSR.reserved_82E` (42_registers_id_to_esr.md R255). -/
def execWrmsrReserved82E (_val : W64) (s : State) : Outcome := alwaysGP s

/-- `RDMSR.reserved_82F`: reserved (42_registers_id_to_esr.md R255), or LVT_CMCI (10_state.md R42). -/
def execRdmsrReserved82F (s : State) : Outcome := if s.self.hw.hasLvtCmci then readLvt .cmci s else alwaysGP s

/-- `WRMSR.reserved_82F`: reserved (42_registers_id_to_esr.md R255), or LVT_CMCI (10_state.md R42). -/
def execWrmsrReserved82F (val : W64) (s : State) : Outcome :=
  if s.self.hw.hasLvtCmci then writeLvt .cmci val s else alwaysGP s

/-- `RDMSR.reserved_831` (43_registers_icr_to_selfipi.md R270). -/
def execRdmsrReserved831 (s : State) : Outcome := alwaysGP s

/-- `WRMSR.reserved_831` (43_registers_icr_to_selfipi.md R270). -/
def execWrmsrReserved831 (_val : W64) (s : State) : Outcome := alwaysGP s

/-- `RDMSR.reserved_83A` (43_registers_icr_to_selfipi.md R287). -/
def execRdmsrReserved83A (s : State) : Outcome := alwaysGP s

/-- `WRMSR.reserved_83A` (43_registers_icr_to_selfipi.md R287). -/
def execWrmsrReserved83A (_val : W64) (s : State) : Outcome := alwaysGP s

/-- `RDMSR.reserved_83B` (43_registers_icr_to_selfipi.md R287). -/
def execRdmsrReserved83B (s : State) : Outcome := alwaysGP s

/-- `WRMSR.reserved_83B` (43_registers_icr_to_selfipi.md R287). -/
def execWrmsrReserved83B (_val : W64) (s : State) : Outcome := alwaysGP s

/-- `RDMSR.reserved_83C` (43_registers_icr_to_selfipi.md R287). -/
def execRdmsrReserved83C (s : State) : Outcome := alwaysGP s

/-- `WRMSR.reserved_83C` (43_registers_icr_to_selfipi.md R287). -/
def execWrmsrReserved83C (_val : W64) (s : State) : Outcome := alwaysGP s

/-- `RDMSR.reserved_83D` (43_registers_icr_to_selfipi.md R287). -/
def execRdmsrReserved83D (s : State) : Outcome := alwaysGP s

/-- `WRMSR.reserved_83D` (43_registers_icr_to_selfipi.md R287). -/
def execWrmsrReserved83D (_val : W64) (s : State) : Outcome := alwaysGP s

/-- `RDMSR.reserved` (43_registers_icr_to_selfipi.md R305). -/
def execRdmsrReserved (_off : BitVec 10) (s : State) : Outcome := alwaysGP s

/-- `WRMSR.reserved` (43_registers_icr_to_selfipi.md R305). -/
def execWrmsrReserved (_off : BitVec 10) (_val : W64) (s : State) : Outcome := alwaysGP s

end Sys2Proof.Machine
end

