-- ==== Sys2Proof/Machine/X86.lean ====
section
/-! DEFINITION. The three core instructions RDMSR, WRMSR and CPUID by their byte encodings (30_encoding.md R115): they
take the address from ECX, the data from EDX:EAX, the leaf from EAX and the sub-leaf from ECX, and return the results
in EDX:EAX or EAX, EBX, ECX, EDX (R111, R112, R114). What they do in between is the operation of the row that the
address or leaf names, or, for an address or leaf outside the spec (R117), what an MSR or leaf of the core itself may
do: the unit is not touched (notes/assumptions/40.md). -/

namespace Sys2Proof.Machine

/-- A RDMSR of an MSR outside this spec (30_encoding.md R117): none of the unit's, so that nothing of the unit changes.
It needs CPL 0 (60_exceptions.md R370), and then either raises GP(0) or answers a free value. DESIGN CHOICE
(notes/assumptions/40.md). -/
def rdmsrOutside (addr : W32) (s : State) : Outcome :=
  .next (if s.self.core.cpl ≠ 0#2 ∨ Config.otherMsrReadFaults addr = true then raiseGP s
    else (s.drew 1).answered (.value s.freeWord))

/-- A WRMSR of an MSR outside this spec: as `rdmsrOutside`, it raises GP(0) or completes without touching the unit. -/
def wrmsrOutside (addr : W32) (val : W64) (s : State) : Outcome :=
  .next (if s.self.core.cpl ≠ 0#2 ∨ Config.otherMsrWriteFaults addr val = true then raiseGP s else s.answered .done)

/-- The operation an RDMSR performs, by its row. -/
def rdmsrMeaning (i : Instr) (s : State) : Outcome :=
  match i with
  | .rdmsrIa32ApicBase => execRdmsrIa32ApicBase s
  | .rdmsrId => execRdmsrId s
  | .rdmsrVer => execRdmsrVer s
  | .rdmsrTpr => execRdmsrTpr s
  | .rdmsrPpr => execRdmsrPpr s
  | .rdmsrEoi => execRdmsrEoi s
  | .rdmsrLdr => execRdmsrLdr s
  | .rdmsrSvr => execRdmsrSvr s
  | .rdmsrEsr => execRdmsrEsr s
  | .rdmsrIcr => execRdmsrIcr s
  | .rdmsrLvtTimer => execRdmsrLvtTimer s
  | .rdmsrLvtThermal => execRdmsrLvtThermal s
  | .rdmsrLvtPmr => execRdmsrLvtPmr s
  | .rdmsrLvtLint0 => execRdmsrLvtLint0 s
  | .rdmsrLvtLint1 => execRdmsrLvtLint1 s
  | .rdmsrLvtError => execRdmsrLvtError s
  | .rdmsrTimerIcr => execRdmsrTimerIcr s
  | .rdmsrTimerCcr => execRdmsrTimerCcr s
  | .rdmsrTimerDcr => execRdmsrTimerDcr s
  | .rdmsrSelfIpi => execRdmsrSelfIpi s
  | .rdmsrIsrk k => execRdmsrIsrk k s
  | .rdmsrTmrk k => execRdmsrTmrk k s
  | .rdmsrIrrk k => execRdmsrIrrk k s
  | .rdmsrReserved800 => execRdmsrReserved800 s
  | .rdmsrReserved801 => execRdmsrReserved801 s
  | .rdmsrReserved804 => execRdmsrReserved804 s
  | .rdmsrReserved805 => execRdmsrReserved805 s
  | .rdmsrReserved806 => execRdmsrReserved806 s
  | .rdmsrReserved807 => execRdmsrReserved807 s
  | .rdmsrReserved809 => execRdmsrReserved809 s
  | .rdmsrReserved80C => execRdmsrReserved80C s
  | .rdmsrReserved80E => execRdmsrReserved80E s
  | .rdmsrReserved829 => execRdmsrReserved829 s
  | .rdmsrReserved82A => execRdmsrReserved82A s
  | .rdmsrReserved82B => execRdmsrReserved82B s
  | .rdmsrReserved82C => execRdmsrReserved82C s
  | .rdmsrReserved82D => execRdmsrReserved82D s
  | .rdmsrReserved82E => execRdmsrReserved82E s
  | .rdmsrReserved82F => execRdmsrReserved82F s
  | .rdmsrReserved831 => execRdmsrReserved831 s
  | .rdmsrReserved83A => execRdmsrReserved83A s
  | .rdmsrReserved83B => execRdmsrReserved83B s
  | .rdmsrReserved83C => execRdmsrReserved83C s
  | .rdmsrReserved83D => execRdmsrReserved83D s
  | .rdmsrReserved off => execRdmsrReserved off s
  | _ => rdmsrOutside s.self.core.ecx s

/-- The operation a WRMSR performs, by its row. -/
def wrmsrMeaning (i : Instr) (s : State) : Outcome :=
  match i with
  | .wrmsrIa32ApicBase val => execWrmsrIa32ApicBase val s
  | .wrmsrId val => execWrmsrId val s
  | .wrmsrVer val => execWrmsrVer val s
  | .wrmsrTpr val => execWrmsrTpr val s
  | .wrmsrPpr val => execWrmsrPpr val s
  | .wrmsrEoi val => execWrmsrEoi val s
  | .wrmsrLdr val => execWrmsrLdr val s
  | .wrmsrSvr val => execWrmsrSvr val s
  | .wrmsrEsr val => execWrmsrEsr val s
  | .wrmsrIcr val => execWrmsrIcr val s
  | .wrmsrLvtTimer val => execWrmsrLvtTimer val s
  | .wrmsrLvtThermal val => execWrmsrLvtThermal val s
  | .wrmsrLvtPmr val => execWrmsrLvtPmr val s
  | .wrmsrLvtLint0 val => execWrmsrLvtLint0 val s
  | .wrmsrLvtLint1 val => execWrmsrLvtLint1 val s
  | .wrmsrLvtError val => execWrmsrLvtError val s
  | .wrmsrTimerIcr val => execWrmsrTimerIcr val s
  | .wrmsrTimerCcr val => execWrmsrTimerCcr val s
  | .wrmsrTimerDcr val => execWrmsrTimerDcr val s
  | .wrmsrSelfIpi val => execWrmsrSelfIpi val s
  | .wrmsrIsrk k val => execWrmsrIsrk k val s
  | .wrmsrTmrk k val => execWrmsrTmrk k val s
  | .wrmsrIrrk k val => execWrmsrIrrk k val s
  | .wrmsrReserved800 val => execWrmsrReserved800 val s
  | .wrmsrReserved801 val => execWrmsrReserved801 val s
  | .wrmsrReserved804 val => execWrmsrReserved804 val s
  | .wrmsrReserved805 val => execWrmsrReserved805 val s
  | .wrmsrReserved806 val => execWrmsrReserved806 val s
  | .wrmsrReserved807 val => execWrmsrReserved807 val s
  | .wrmsrReserved809 val => execWrmsrReserved809 val s
  | .wrmsrReserved80C val => execWrmsrReserved80C val s
  | .wrmsrReserved80E val => execWrmsrReserved80E val s
  | .wrmsrReserved829 val => execWrmsrReserved829 val s
  | .wrmsrReserved82A val => execWrmsrReserved82A val s
  | .wrmsrReserved82B val => execWrmsrReserved82B val s
  | .wrmsrReserved82C val => execWrmsrReserved82C val s
  | .wrmsrReserved82D val => execWrmsrReserved82D val s
  | .wrmsrReserved82E val => execWrmsrReserved82E val s
  | .wrmsrReserved82F val => execWrmsrReserved82F val s
  | .wrmsrReserved831 val => execWrmsrReserved831 val s
  | .wrmsrReserved83A val => execWrmsrReserved83A val s
  | .wrmsrReserved83B val => execWrmsrReserved83B val s
  | .wrmsrReserved83C val => execWrmsrReserved83C val s
  | .wrmsrReserved83D val => execWrmsrReserved83D val s
  | .wrmsrReserved off val => execWrmsrReserved off val s
  | _ => wrmsrOutside s.self.core.ecx (s.self.core.edx ++ s.self.core.eax) s

/-- The operation a CPUID performs, by its row. -/
def cpuidMeaning (i : Instr) (s : State) : Outcome :=
  match i with
  | .cpuid01h subleaf => execCpuid01h subleaf s
  | .cpuid0bh subleaf => execCpuid0bh subleaf s
  | _ => cpuidOutside s

/-- The results of the last operation go to the core's registers: `val[63:32]` to EDX and `val[31:0]` to EAX for an
RDMSR, the four results for a CPUID; nothing where it answered otherwise, in particular with an exception
(30_encoding.md R111, R114; 60_exceptions.md R340). -/
def loadResults (s : State) : State :=
  match s.self.core.answer with
  | .value val =>
    s.mapCore fun c => { c with eax := val.extractLsb' 0 32, edx := val.extractLsb' 32 32 }
  | .cpuid a b c d => s.mapCore fun r => { r with eax := a, ebx := b, ecx := c, edx := d }
  | .none => s
  | .done => s
  | .data _ => s
  | .exception _ _ => s

/-- The outcome with its next state changed by `f`. -/
def mapNext (f : State → State) (o : Outcome) : Outcome :=
  match o with
  | .next s => .next (f s)
  | .fault e => .fault e
  | .refused e => .refused e

/-- `x86.RDMSR` (30_encoding.md R111, R115). With CPL > 0 it raises GP(0) whatever ECX holds (60_exceptions.md R370). -/
def execX86Rdmsr (s : State) : Outcome :=
  if s.self.core.cpl ≠ 0#2 then .next (raiseGP s)
  else
    mapNext loadResults
      (match decodeRdmsr s.self.core.ecx with
      | .ok i => rdmsrMeaning i s
      | .error _ => rdmsrOutside s.self.core.ecx s)

/-- `x86.WRMSR` (30_encoding.md R112, R115). With CPL > 0 it raises GP(0) whatever ECX holds (60_exceptions.md R370). -/
def execX86Wrmsr (s : State) : Outcome :=
  let val := s.self.core.edx ++ s.self.core.eax
  if s.self.core.cpl ≠ 0#2 then .next (raiseGP s)
  else
    match decodeWrmsr s.self.core.ecx val with
    | .ok i => wrmsrMeaning i s
    | .error _ => wrmsrOutside s.self.core.ecx val s

/-- `x86.CPUID` (30_encoding.md R114, R115). It runs with every leaf (44_cpuid.md R320). -/
def execX86Cpuid (s : State) : Outcome :=
  mapNext loadResults
    (match decodeCpuid s.self.core.eax s.self.core.ecx with
    | .ok i => cpuidMeaning i s
    | .error _ => cpuidOutside s)

end Sys2Proof.Machine
end

