-- ==== Sys2Proof/Machine/Dispatch.lean ====
section
/-! DEFINITION. The dispatch: one arm per row of spec/opcode_table.json. -/

namespace Sys2Proof.Machine

def exec (i : Instr) (s : State) : Host.Outcome State Fault Refusal :=
  match i with
  | .rdmsrIa32ApicBase => Sys2Proof.Machine.execRdmsrIa32ApicBase s
  | .wrmsrIa32ApicBase val => Sys2Proof.Machine.execWrmsrIa32ApicBase val s
  | .rdmsrId => Sys2Proof.Machine.execRdmsrId s
  | .wrmsrId val => Sys2Proof.Machine.execWrmsrId val s
  | .rdmsrVer => Sys2Proof.Machine.execRdmsrVer s
  | .wrmsrVer val => Sys2Proof.Machine.execWrmsrVer val s
  | .rdmsrTpr => Sys2Proof.Machine.execRdmsrTpr s
  | .wrmsrTpr val => Sys2Proof.Machine.execWrmsrTpr val s
  | .rdmsrPpr => Sys2Proof.Machine.execRdmsrPpr s
  | .wrmsrPpr val => Sys2Proof.Machine.execWrmsrPpr val s
  | .rdmsrEoi => Sys2Proof.Machine.execRdmsrEoi s
  | .wrmsrEoi val => Sys2Proof.Machine.execWrmsrEoi val s
  | .rdmsrLdr => Sys2Proof.Machine.execRdmsrLdr s
  | .wrmsrLdr val => Sys2Proof.Machine.execWrmsrLdr val s
  | .rdmsrSvr => Sys2Proof.Machine.execRdmsrSvr s
  | .wrmsrSvr val => Sys2Proof.Machine.execWrmsrSvr val s
  | .rdmsrEsr => Sys2Proof.Machine.execRdmsrEsr s
  | .wrmsrEsr val => Sys2Proof.Machine.execWrmsrEsr val s
  | .rdmsrIcr => Sys2Proof.Machine.execRdmsrIcr s
  | .wrmsrIcr val => Sys2Proof.Machine.execWrmsrIcr val s
  | .rdmsrLvtTimer => Sys2Proof.Machine.execRdmsrLvtTimer s
  | .wrmsrLvtTimer val => Sys2Proof.Machine.execWrmsrLvtTimer val s
  | .rdmsrLvtThermal => Sys2Proof.Machine.execRdmsrLvtThermal s
  | .wrmsrLvtThermal val => Sys2Proof.Machine.execWrmsrLvtThermal val s
  | .rdmsrLvtPmr => Sys2Proof.Machine.execRdmsrLvtPmr s
  | .wrmsrLvtPmr val => Sys2Proof.Machine.execWrmsrLvtPmr val s
  | .rdmsrLvtLint0 => Sys2Proof.Machine.execRdmsrLvtLint0 s
  | .wrmsrLvtLint0 val => Sys2Proof.Machine.execWrmsrLvtLint0 val s
  | .rdmsrLvtLint1 => Sys2Proof.Machine.execRdmsrLvtLint1 s
  | .wrmsrLvtLint1 val => Sys2Proof.Machine.execWrmsrLvtLint1 val s
  | .rdmsrLvtError => Sys2Proof.Machine.execRdmsrLvtError s
  | .wrmsrLvtError val => Sys2Proof.Machine.execWrmsrLvtError val s
  | .rdmsrTimerIcr => Sys2Proof.Machine.execRdmsrTimerIcr s
  | .wrmsrTimerIcr val => Sys2Proof.Machine.execWrmsrTimerIcr val s
  | .rdmsrTimerCcr => Sys2Proof.Machine.execRdmsrTimerCcr s
  | .wrmsrTimerCcr val => Sys2Proof.Machine.execWrmsrTimerCcr val s
  | .rdmsrTimerDcr => Sys2Proof.Machine.execRdmsrTimerDcr s
  | .wrmsrTimerDcr val => Sys2Proof.Machine.execWrmsrTimerDcr val s
  | .rdmsrSelfIpi => Sys2Proof.Machine.execRdmsrSelfIpi s
  | .wrmsrSelfIpi val => Sys2Proof.Machine.execWrmsrSelfIpi val s
  | .rdmsrIsrk k => Sys2Proof.Machine.execRdmsrIsrk k s
  | .wrmsrIsrk k val => Sys2Proof.Machine.execWrmsrIsrk k val s
  | .rdmsrTmrk k => Sys2Proof.Machine.execRdmsrTmrk k s
  | .wrmsrTmrk k val => Sys2Proof.Machine.execWrmsrTmrk k val s
  | .rdmsrIrrk k => Sys2Proof.Machine.execRdmsrIrrk k s
  | .wrmsrIrrk k val => Sys2Proof.Machine.execWrmsrIrrk k val s
  | .rdmsrReserved800 => Sys2Proof.Machine.execRdmsrReserved800 s
  | .wrmsrReserved800 val => Sys2Proof.Machine.execWrmsrReserved800 val s
  | .rdmsrReserved801 => Sys2Proof.Machine.execRdmsrReserved801 s
  | .wrmsrReserved801 val => Sys2Proof.Machine.execWrmsrReserved801 val s
  | .rdmsrReserved804 => Sys2Proof.Machine.execRdmsrReserved804 s
  | .wrmsrReserved804 val => Sys2Proof.Machine.execWrmsrReserved804 val s
  | .rdmsrReserved805 => Sys2Proof.Machine.execRdmsrReserved805 s
  | .wrmsrReserved805 val => Sys2Proof.Machine.execWrmsrReserved805 val s
  | .rdmsrReserved806 => Sys2Proof.Machine.execRdmsrReserved806 s
  | .wrmsrReserved806 val => Sys2Proof.Machine.execWrmsrReserved806 val s
  | .rdmsrReserved807 => Sys2Proof.Machine.execRdmsrReserved807 s
  | .wrmsrReserved807 val => Sys2Proof.Machine.execWrmsrReserved807 val s
  | .rdmsrReserved809 => Sys2Proof.Machine.execRdmsrReserved809 s
  | .wrmsrReserved809 val => Sys2Proof.Machine.execWrmsrReserved809 val s
  | .rdmsrReserved80C => Sys2Proof.Machine.execRdmsrReserved80C s
  | .wrmsrReserved80C val => Sys2Proof.Machine.execWrmsrReserved80C val s
  | .rdmsrReserved80E => Sys2Proof.Machine.execRdmsrReserved80E s
  | .wrmsrReserved80E val => Sys2Proof.Machine.execWrmsrReserved80E val s
  | .rdmsrReserved829 => Sys2Proof.Machine.execRdmsrReserved829 s
  | .wrmsrReserved829 val => Sys2Proof.Machine.execWrmsrReserved829 val s
  | .rdmsrReserved82A => Sys2Proof.Machine.execRdmsrReserved82A s
  | .wrmsrReserved82A val => Sys2Proof.Machine.execWrmsrReserved82A val s
  | .rdmsrReserved82B => Sys2Proof.Machine.execRdmsrReserved82B s
  | .wrmsrReserved82B val => Sys2Proof.Machine.execWrmsrReserved82B val s
  | .rdmsrReserved82C => Sys2Proof.Machine.execRdmsrReserved82C s
  | .wrmsrReserved82C val => Sys2Proof.Machine.execWrmsrReserved82C val s
  | .rdmsrReserved82D => Sys2Proof.Machine.execRdmsrReserved82D s
  | .wrmsrReserved82D val => Sys2Proof.Machine.execWrmsrReserved82D val s
  | .rdmsrReserved82E => Sys2Proof.Machine.execRdmsrReserved82E s
  | .wrmsrReserved82E val => Sys2Proof.Machine.execWrmsrReserved82E val s
  | .rdmsrReserved82F => Sys2Proof.Machine.execRdmsrReserved82F s
  | .wrmsrReserved82F val => Sys2Proof.Machine.execWrmsrReserved82F val s
  | .rdmsrReserved831 => Sys2Proof.Machine.execRdmsrReserved831 s
  | .wrmsrReserved831 val => Sys2Proof.Machine.execWrmsrReserved831 val s
  | .rdmsrReserved83A => Sys2Proof.Machine.execRdmsrReserved83A s
  | .wrmsrReserved83A val => Sys2Proof.Machine.execWrmsrReserved83A val s
  | .rdmsrReserved83B => Sys2Proof.Machine.execRdmsrReserved83B s
  | .wrmsrReserved83B val => Sys2Proof.Machine.execWrmsrReserved83B val s
  | .rdmsrReserved83C => Sys2Proof.Machine.execRdmsrReserved83C s
  | .wrmsrReserved83C val => Sys2Proof.Machine.execWrmsrReserved83C val s
  | .rdmsrReserved83D => Sys2Proof.Machine.execRdmsrReserved83D s
  | .wrmsrReserved83D val => Sys2Proof.Machine.execWrmsrReserved83D val s
  | .rdmsrReserved off => Sys2Proof.Machine.execRdmsrReserved off s
  | .wrmsrReserved off val => Sys2Proof.Machine.execWrmsrReserved off val s
  | .loadId page => Sys2Proof.Machine.execLoadId page s
  | .storeId page val => Sys2Proof.Machine.execStoreId page val s
  | .loadVer page => Sys2Proof.Machine.execLoadVer page s
  | .storeVer page val => Sys2Proof.Machine.execStoreVer page val s
  | .loadTpr page => Sys2Proof.Machine.execLoadTpr page s
  | .storeTpr page val => Sys2Proof.Machine.execStoreTpr page val s
  | .loadApr page => Sys2Proof.Machine.execLoadApr page s
  | .storeApr page val => Sys2Proof.Machine.execStoreApr page val s
  | .loadPpr page => Sys2Proof.Machine.execLoadPpr page s
  | .storePpr page val => Sys2Proof.Machine.execStorePpr page val s
  | .loadEoi page => Sys2Proof.Machine.execLoadEoi page s
  | .storeEoi page val => Sys2Proof.Machine.execStoreEoi page val s
  | .loadRrr page => Sys2Proof.Machine.execLoadRrr page s
  | .storeRrr page val => Sys2Proof.Machine.execStoreRrr page val s
  | .loadLdr page => Sys2Proof.Machine.execLoadLdr page s
  | .storeLdr page val => Sys2Proof.Machine.execStoreLdr page val s
  | .loadDfr page => Sys2Proof.Machine.execLoadDfr page s
  | .storeDfr page val => Sys2Proof.Machine.execStoreDfr page val s
  | .loadSvr page => Sys2Proof.Machine.execLoadSvr page s
  | .storeSvr page val => Sys2Proof.Machine.execStoreSvr page val s
  | .loadEsr page => Sys2Proof.Machine.execLoadEsr page s
  | .storeEsr page val => Sys2Proof.Machine.execStoreEsr page val s
  | .loadLvtTimer page => Sys2Proof.Machine.execLoadLvtTimer page s
  | .storeLvtTimer page val => Sys2Proof.Machine.execStoreLvtTimer page val s
  | .loadLvtThermal page => Sys2Proof.Machine.execLoadLvtThermal page s
  | .storeLvtThermal page val => Sys2Proof.Machine.execStoreLvtThermal page val s
  | .loadLvtPmr page => Sys2Proof.Machine.execLoadLvtPmr page s
  | .storeLvtPmr page val => Sys2Proof.Machine.execStoreLvtPmr page val s
  | .loadLvtLint0 page => Sys2Proof.Machine.execLoadLvtLint0 page s
  | .storeLvtLint0 page val => Sys2Proof.Machine.execStoreLvtLint0 page val s
  | .loadLvtLint1 page => Sys2Proof.Machine.execLoadLvtLint1 page s
  | .storeLvtLint1 page val => Sys2Proof.Machine.execStoreLvtLint1 page val s
  | .loadLvtError page => Sys2Proof.Machine.execLoadLvtError page s
  | .storeLvtError page val => Sys2Proof.Machine.execStoreLvtError page val s
  | .loadTimerIcr page => Sys2Proof.Machine.execLoadTimerIcr page s
  | .storeTimerIcr page val => Sys2Proof.Machine.execStoreTimerIcr page val s
  | .loadTimerCcr page => Sys2Proof.Machine.execLoadTimerCcr page s
  | .storeTimerCcr page val => Sys2Proof.Machine.execStoreTimerCcr page val s
  | .loadTimerDcr page => Sys2Proof.Machine.execLoadTimerDcr page s
  | .storeTimerDcr page val => Sys2Proof.Machine.execStoreTimerDcr page val s
  | .loadIsrk page k => Sys2Proof.Machine.execLoadIsrk page k s
  | .storeIsrk page k val => Sys2Proof.Machine.execStoreIsrk page k val s
  | .loadTmrk page k => Sys2Proof.Machine.execLoadTmrk page k s
  | .storeTmrk page k val => Sys2Proof.Machine.execStoreTmrk page k val s
  | .loadIrrk page k => Sys2Proof.Machine.execLoadIrrk page k s
  | .storeIrrk page k val => Sys2Proof.Machine.execStoreIrrk page k val s
  | .loadIcrLo page => Sys2Proof.Machine.execLoadIcrLo page s
  | .storeIcrLo page val => Sys2Proof.Machine.execStoreIcrLo page val s
  | .loadIcrHi page => Sys2Proof.Machine.execLoadIcrHi page s
  | .storeIcrHi page val => Sys2Proof.Machine.execStoreIcrHi page val s
  | .loadReserved page slot => Sys2Proof.Machine.execLoadReserved page slot s
  | .storeReserved page slot val => Sys2Proof.Machine.execStoreReserved page slot val s
  | .cpuid01h subleaf => Sys2Proof.Machine.execCpuid01h subleaf s
  | .cpuid0bh subleaf => Sys2Proof.Machine.execCpuid0bh subleaf s
  | .x86Rdmsr => Sys2Proof.Machine.execX86Rdmsr s
  | .x86Wrmsr => Sys2Proof.Machine.execX86Wrmsr s
  | .x86Cpuid => Sys2Proof.Machine.execX86Cpuid s

end Sys2Proof.Machine
end

