-- ==== Sys2Proof/Machine/Agents.lean ====
section
/-! DEFINITION. What each event of the schedule does: the core's access operations through the decoder and `exec`, the
core taking an interrupt, and the asynchronous agents (60_exceptions.md R347, R349, R353, R365;
70_reset_and_hazards.md R400, R403). -/

namespace Sys2Proof.Machine

/-- The state in which the core issues its next operation: the privilege flag is the operation's own
(60_exceptions.md R370), and the boundary after a TPR write is passed. -/
def atIssue (cpl : BitVec 2) (s : State) : State := s.mapCore fun c => { c with cpl := cpl, tprBoundary := false }

/-- An access operation that is no row of the table, for the decoder's reason `e`: an MSR or leaf outside the spec
runs (notes/assumptions/40.md), an MMIO access of another width or alignment (20_memory.md R86) and other bytes are
refused. -/
def runOutside (e : DecodeError) (a : Access) (s : State) : Outcome :=
  match a with
  | .msrR addr => rdmsrOutside addr s
  | .msrW addr val => wrmsrOutside addr val s
  | .cpuid _ _ => cpuidOutside s
  | .mmioR _ _ => .refused (.undecoded e)
  | .mmioW _ _ _ => .refused (.undecoded e)
  | .x86 _ => .refused (.undecoded e)

/-- An access operation: decoded, then executed (30_encoding.md R117). -/
def runAccess (cpl : BitVec 2) (a : Access) (s : State) : Outcome :=
  match decode a with
  | .ok i => exec i (atIssue cpl s)
  | .error e => runOutside e a (atIssue cpl s)

/-- The core runs instructions outside the model (92_eei_decisions.md D21). -/
def runCore (eax ebx ecx edx : W32) (intEnabled : Bool) (s : State) : State :=
  s.mapCore fun c =>
    { c with eax := eax, ebx := ebx, ecx := ecx, edx := edx, intEnabled := intEnabled, tprBoundary := false }

/-- The core samples the offer (60_exceptions.md R350). -/
def sampleOffer (s : State) : State :=
  s.mapCore fun c => { c with sampled := c.sampled || (c.intEnabled && (offered s.self).isSome) }

/-- The spurious vector is delivered and no ISR bit is set (60_exceptions.md R359). -/
def takeSpurious (s : State) : State :=
  (s.mapCore fun c => { c with sampled := false, tprBoundary := false }).emit (.spurious (lowByte s.self.svr))

/-- The core acknowledges an interrupt: the offered one (60_exceptions.md R353), or the spurious one where an offer it
has sampled is gone (R359). -/
def takeInterrupt (s : State) : Outcome :=
  if s.self.core.intEnabled then
    match offered s.self with
    | some v => .next (dispatch v s)
    | none => if s.self.core.sampled then .next (takeSpurious s) else .fault .nothingToTake
  else .fault .nothingToTake

/-- The delivery agent delivers the `k`-th message in flight (60_exceptions.md R349). -/
def deliver (k : Nat) (s : State) : Outcome :=
  match s.inflight[k]? with
  | some m => .next (deliverMessage k m s)
  | none => .fault .noSuchMessage

/-- The `k`-th other unit becomes the acting one. -/
def selectUnit (k : Nat) (s : State) : Outcome :=
  match s.others[k]? with
  | some _ => .next (swapWith k s)
  | none => .fault .noSuchUnit

/-- A local interrupt source that the unit has fires its entry (60_exceptions.md R347, R360). -/
def fireSource (x : LocalSource) (s : State) : Outcome :=
  if hasSource s.self.hw x then .next (fireLvt x.entry s) else .fault .noSuchSource

/-- What an event does. -/
def runEvent (e : Event) (s : State) : Outcome :=
  match e with
  | .access cpl a => runAccess cpl a s
  | .coreRuns a b c d i => .next (runCore a b c d i s)
  | .sample => .next (sampleOffer s)
  | .take => takeInterrupt s
  | .deliver k => deliver k s
  | .deviceMessage del vec level => .next (arriveMessage .sent del vec level s)
  | .tick => .next (timerTick s)
  | .clock => .next (timerClock s)
  | .source x => fireSource x s
  | .resetUnit => .next (resetSelf s)
  | .initUnit => .next (initSelf s)
  | .select k => selectUnit k s

/-- The event is an instruction of the acting unit's core. -/
def isInstruction : Event → Bool
  | .access _ _ => true
  | .coreRuns _ _ _ _ _ => true
  | .sample => false
  | .take => false
  | .deliver _ => false
  | .deviceMessage _ _ _ => false
  | .tick => false
  | .clock => false
  | .source _ => false
  | .resetUnit => false
  | .initUnit => false
  | .select _ => false

/-- The interrupt that must be taken before the core's next instruction: one offered at the boundary right after a TPR
write, with the core's interrupts on (42_registers_id_to_esr.md R211; 60_exceptions.md R350 (b)). -/
def definiteOffer (u : Apic) : Option Byte :=
  if u.core.tprBoundary && u.core.intEnabled then offered u else none

/-- The interrupt that precedes event `e`, if any. -/
def dueBefore (e : Event) (u : Apic) : Option Byte := if isInstruction e then definiteOffer u else none

/-- One step with the event `e` at the head of the schedule and `rest` after it: the interrupt that is due before `e`,
or `e` itself. -/
def stepEvent (e : Event) (rest : List Event) (s : State) : Outcome :=
  match dueBefore e s.self with
  | some v => .next (dispatch v s)
  | none => runEvent e { s with schedule := rest }

end Sys2Proof.Machine
end

