-- ==== Sys2Proof/Machine/Step.lean ====
section
/-! DEFINITION. One step of the platform: the schedule's next event. With nothing scheduled no agent moves. -/

namespace Sys2Proof.Machine

/-- One step (20_memory.md R88: each operation and each agent step is indivisible). -/
def step (s : State) : Host.Outcome State Fault Refusal :=
  match s.schedule with
  | [] => .next s
  | e :: rest => stepEvent e rest s

/-- The state with the instruction of a table row's own bits as what happens next, issued at CPL 0. -/
def State.withFetchWord (s : State) (nbits w : Nat) : State :=
  { s with schedule := .access 0#2 (tableAccess nbits w) :: s.schedule }

end Sys2Proof.Machine
end

