-- ==== Sys2Proof/Safety.lean ====
section
/-! DEFINITION. What holds of every unit of a safe run: the invariant the spec's rules keep. -/

namespace Sys2Proof.Machine

/-- Vectors 0 to 15 never appear in IRR, ISR or TMR (60_exceptions.md R354). -/
abbrev noLowVector (b : Bits256) : Prop := b.extractLsb' 0 16 = 0#16

/-- An LVT register holds nothing but its writable bits (43_registers_icr_to_selfipi.md R271). -/
abbrev lvtHeld (x : LvtId) (l : Lvt) : Prop := l.reg &&& ~~~(lvtWr x) = 0#32

/-- The mode state of a unit: its mode is not Invalid (10_state.md R25), BSP is as at RESET (40_enable_and_mode.md
R148), x2APIC mode needs its support (R147), and APIC_BASE fits in MAXPHYADDR bits (R148). -/
structure ModeInv (u : Apic) : Prop where
  mode : u.mode ≠ .invalid
  bsp : u.base.bsp = u.hw.isBsp
  supported : u.base.extd = true → u.hw.x2apicSupported = true
  page : (u.base.page ++ 0#12) &&& ~~~(lowMask 64 u.hw.maxPhyAddr) = 0#64

/-- The interrupt state of a unit with the default interrupt logic: no vector below 16 (60_exceptions.md R354), and
nothing at all in a Disabled unit (40_enable_and_mode.md R144, R145, R146). -/
structure VectorInv (u : Apic) : Prop where
  irr : noLowVector u.irr
  isr : noLowVector u.isr
  tmr : noLowVector u.tmr
  disabled : u.mode = .disabled → u.irr = 0#256 ∧ u.isr = 0#256 ∧ u.tmr = 0#256

/-- The identification state: in x2APIC mode the LDR is the logical x2APIC ID (42_registers_id_to_esr.md R230) and the
local xAPIC ID is the hardware's (40_enable_and_mode.md R150). -/
structure IdInv (u : Apic) : Prop where
  ldr : u.mode = .x2apic → u.ldr = logicalX2apicId u.x2apicId
  xapicId : u.mode = .x2apic → u.xapicId = u.hw.x2apicIdHw.extractLsb' 0 8

/-- Reserved bits of the stored registers are zero, and DFR's are ones (00_scope.md R9; 10_state.md R36 to R52). -/
structure ReservedInv (u : Apic) : Prop where
  svr : u.svr &&& ~~~(svrBitsXapic u.hw) = 0#32
  esr : u.esr &&& ~~~0x000000FF#32 = 0#32
  esrPending : u.esrPending &&& ~~~0x000000FF#32 = 0#32
  icr : u.icr &&& rsvdIcr u.hw = 0#64
  timerDcr : u.timerDcr &&& u.hw.rsvd.timerDcr = 0#32
  dfr : u.dfr &&& dfrOnes = dfrOnes
  lvt : ∀ x, lvtHeld x (u.lvt x)

/-- The timer: `0 <= count <= TIMER_ICR`, and a running timer has something left to count (60_exceptions.md R365). -/
structure TimerInv (u : Apic) : Prop where
  bounded : u.count ≤ u.timerIcr
  running : u.running = true → u.count ≠ 0#32

/-- The invariant of one unit. -/
structure UnitInv (u : Apic) : Prop where
  hw : u.hw.wf = true
  mode : ModeInv u
  vectors : u.hw.logic = .standard → VectorInv u
  ids : IdInv u
  reserved : ReservedInv u
  timer : TimerInv u

/-- The x2APIC ID that the hardware assigned to each unit of the platform. -/
def hardwareIds (s : State) : List W32 := (s.self :: s.others).map fun u => u.hw.x2apicIdHw

/-- The invariant of the platform: of the acting unit and of every other one, and each unit's x2APIC ID is unique
(00_scope.md R12; 60_exceptions.md R372). -/
structure PlatformInv (s : State) : Prop where
  self : UnitInv s.self
  others : ∀ u ∈ s.others, UnitInv u
  unique : (hardwareIds s).Nodup

end Sys2Proof.Machine
end

