-- ==== Sys2Proof/Certificates/Slice0/Obligations.lean ====
section
/-! DEFINITION. The statements for the provers. First the words they are written in: states with one named change, and
tables of rows that share a shape, with the masks the spec gives each. A record update in a conclusion is a frame:
every field it does not name is unchanged. -/

namespace Sys2Proof.Statements

open Sys2Proof.Machine

/-! ### States -/

/-- The state in which the core has been answered `a`, and nothing else differs from `s`. -/
def withAnswer (a : Answer) (s : State) : State :=
  { s with self := { s.self with core := { s.self.core with answer := a } } }

/-- `s` after a write that has completed. -/
def finished (s : State) : State := withAnswer .done s

/-- `s` after `raise GP(0)` (60_exceptions.md R340): exception 13 with error code 0, and nothing else, which the spec
marks as its general knowledge GK7 (notes/assumptions/7.md). -/
def gp (s : State) : State := withAnswer (.exception 13#8 0#32) s

/-- `s` with `n` more free values used: the model's own counter (notes/assumptions/12.md). -/
def drawing (n : Nat) (s : State) : State := { s with draws := s.draws + n }

/-- `s` with its acting unit replaced. -/
def withSelf (u : Apic) (s : State) : State := { s with self := u }

/-- The common checks pass: CPL 0 and x2APIC mode (41_msr_access.md R181, R182). -/
def hears (s : State) : Prop := s.self.core.cpl = 0#2 ∧ s.self.mode = .x2apic

/-- An MMIO access to `page` reaches the unit: xAPIC mode and the unit's own page (41_msr_access.md R190). -/
def atPage (page : PageNo) (s : State) : Prop := s.self.mode = .xapic ∧ page = s.self.base.page

/-- The unit has the default interrupt logic (60_exceptions.md R351; notes/assumptions/5.md). -/
def standard (u : Apic) : Prop := u.hw.logic = .standard

/-- `RSVD[reg]` of a 32-bit register, from its low half: bits 63:32 are reserved too (41_msr_access.md R177). -/
def wordRsvd (low : W32) : W64 := 0xFFFFFFFF#32 ++ low

/-- The low half of `RSVD[SVR]`: bit 12 exists with `DIRECTED_EOI` only (10_state.md R37). -/
def svrRsvd (p : Params) : W32 := if p.directedEoi then p.rsvd.svr else p.rsvd.svr ||| 0x00001000#32

/-- The unit accepts fixed interrupts: it is not Disabled and it is software-enabled (60_exceptions.md R352). -/
def accepts (u : Apic) : Prop := u.base.en = true ∧ u.svr.getLsbD 8 = true

/-- An MSR address of the unit, 800H to BFFH (41_msr_access.md R170). -/
def inMsrRange (addr : W32) : Prop := 0x800 ≤ addr.toNat ∧ addr.toNat ≤ 0xBFF

/-- `v` is the highest vector set in `b`. -/
def isHighest (b : Bits256) (v : Byte) : Prop :=
  b.getLsbD v.toNat = true ∧ ∀ w : Byte, v < w → b.getLsbD w.toNat = false

/-- `v` is `isrv` of 60_exceptions.md R355: the highest vector in service, or 0 if none is. -/
def inService (u : Apic) (v : Byte) : Prop := isHighest u.isr v ∨ (u.isr = 0#256 ∧ v = 0#8)

/-- Bits 7:4 of a vector or a priority, as a number. -/
def priorityClass (v : Byte) : Nat := v.toNat / 16

/-- The one bit of vector `v`. -/
def bitOf (v : Byte) : Bits256 := 1#256 <<< v.toNat

/-- The unit in which a fixed interrupt is accepted by the default logic (60_exceptions.md R352). -/
def pended (vec : Byte) (level : Bool) (u : Apic) : Apic :=
  { u with
    irr := u.irr ||| bitOf vec
    tmr := if level then u.tmr ||| bitOf vec else u.tmr &&& ~~~(bitOf vec) }

/-- The unit in which the entry of the local source that raised an accepted vector has noted it: the model's own record
(notes/assumptions/15.md). -/
def noted (o : Origin) (vec : Byte) (u : Apic) : Apic :=
  match o with
  | .sent => u
  | .held => u
  | .source x => u.withLvt x { u.lvt x with raised := (u.lvt x).raised ||| bitOf vec }

/-- The message that stands for an interrupt which unit `id` holds because it does not accept it
(notes/assumptions/14.md). -/
def holding (id : W32) (o : Origin) (vec : Byte) (level : Bool) : Msg where
  src := id
  dst := id
  del := 0#3
  vec := vec
  trig := level
  level := true
  origin := match o with
    | .sent => .held
    | .held => .held
    | .source x => .source x

/-- `t` is `s` after a fixed interrupt of a legal vector has come to the acting unit (60_exceptions.md R352). A unit
that accepts sets its IRR bit, and its TMR bit by its trigger; one that does not accept loses it or holds it. Nothing
else moves but the source's record. -/
def receives (o : Origin) (vec : Byte) (level : Bool) (s t : State) : Prop :=
  (accepts s.self → standard s.self → t = withSelf (noted o vec (pended vec level s.self)) s)
  ∧ (accepts s.self → ∃ r : IntrRegs, t = withSelf (noted o vec (s.self.withRegs r)) s)
  ∧ (¬ accepts s.self →
      t = drawing 1 s
      ∨ t = { drawing 1 s with inflight := s.inflight ++ [holding s.self.x2apicId o vec level] })

/-- The vector of the error entry. -/
def errorVector (u : Apic) : Byte := u.lvtError.reg.setWidth 8

/-- `t` is `s` after the error entry has issued its interrupt, edge-triggered (60_exceptions.md R346): received, or,
with a vector below 16, logged as an illegal one in bit 6 (notes/assumptions/16.md). -/
def issuesError (s t : State) : Prop :=
  ((errorVector s.self).toNat < 16 → t = withSelf { s.self with esrPending := s.self.esrPending ||| 0x40#32 } s)
  ∧ (16 ≤ (errorVector s.self).toNat → receives (.source .error) (errorVector s.self) false s t)

/-- `t` is `s` with error `b` logged (60_exceptions.md R345, R346): the error's bit is set, and with the error entry
masked that is all. Unmasked, and with no error pending before, the entry issues its interrupt; with one pending it
issues a second one or does not. -/
def logsError (b : Nat) (s t : State) : Prop :=
  let logged := withSelf { s.self with esrPending := s.self.esrPending ||| (1#32 <<< b) } s
  (s.self.lvtError.reg.getLsbD 16 = true → t = logged)
  ∧ (s.self.lvtError.reg.getLsbD 16 = false → s.self.esrPending = 0#32 → issuesError logged t)
  ∧ (s.self.lvtError.reg.getLsbD 16 = false → s.self.esrPending ≠ 0#32 →
      t = drawing 1 logged ∨ issuesError (drawing 1 logged) t)

/-- `t` is `s` after a fixed interrupt has come to the acting unit: received, or, with a vector below 16, logged as
Received Illegal Vector, bit 6 (60_exceptions.md R349, R354). -/
def arrives (o : Origin) (vec : Byte) (level : Bool) (s t : State) : Prop :=
  (vec.toNat < 16 → logsError 6 s t) ∧ (16 ≤ vec.toNat → receives o vec level s t)

/-- The unit after a non-fixed interrupt has been handed to its core as an event (60_exceptions.md R358). -/
def handed (del : BitVec 3) (vec : Byte) (u : Apic) : Apic := { u with out := u.out ++ [.coreEvent del vec] }

/-- `t` is `s` after a message of a delivery mode other than INIT has reached the acting unit (60_exceptions.md R349,
R358): a fixed one arrives; a lowest-priority one, which one of its targets accepts, arrives or goes past this unit
(notes/assumptions/20.md); any other is handed to the core as its event. -/
def reached (o : Origin) (del : BitVec 3) (vec : Byte) (level : Bool) (s t : State) : Prop :=
  (del = 0#3 → arrives o vec level s t)
  ∧ (del = 1#3 → t = drawing 1 s ∨ arrives o vec level (drawing 1 s) t)
  ∧ (del ≠ 0#3 → del ≠ 1#3 → t = withSelf (handed del vec s.self) s)

/-- A unit after INIT outside the Disabled state (70_reset_and_hazards.md R403; 10_state.md R60, column after INIT):
the mode MSR and the IDs are kept, `esr` and `pending` are what that column leaves open. That of the core's port an
INIT drops a sampled offer and the boundary mark and keeps the rest is the model's choice (notes/assumptions/8.md). -/
def afterInit (esr pending : W32) (u : Apic) : Apic :=
  { u with
    tpr := 0#8
    ldr := if u.mode = .x2apic then logicalX2apicId u.x2apicId else 0#32
    dfr := 0xFFFFFFFF#32
    svr := 0x000000FF#32
    isr := 0#256
    tmr := 0#256
    irr := 0#256
    esr := esr &&& 0x000000FF#32
    esrPending := pending &&& 0x000000FF#32
    icr := 0#64
    lvtTimer := { reg := 0x00010000#32, raised := 0#256 }
    lvtThermal := { reg := 0x00010000#32, raised := 0#256 }
    lvtPmr := { reg := 0x00010000#32, raised := 0#256 }
    lvtLint0 := { reg := 0x00010000#32, raised := 0#256 }
    lvtLint1 := { reg := 0x00010000#32, raised := 0#256 }
    lvtError := { reg := 0x00010000#32, raised := 0#256 }
    lvtCmci := { reg := 0x00010000#32, raised := 0#256 }
    timerIcr := 0#32
    timerDcr := 0#32
    count := 0#32
    running := false
    frac := 0
    core := { u.core with sampled := false, tprBoundary := false } }

/-- `t` is `s` after INIT of the acting unit (70_reset_and_hazards.md R403): in Disabled nothing of the unit changes;
each message to the unit is kept or dropped, and those to other units are kept, each as often as before. -/
def inits (s t : State) : Prop :=
  t.others = s.others ∧ t.schedule = s.schedule ∧ t.draws = s.draws + 2 + s.inflight.length
  ∧ t.inflight.Sublist s.inflight
  ∧ (t.inflight.filter fun m : Msg => m.dst != s.self.x2apicId) = (s.inflight.filter fun m => m.dst != s.self.x2apicId)
  ∧ (s.self.mode = .disabled → t.self = s.self)
  ∧ (s.self.mode ≠ .disabled → ∃ esr pending, t.self = afterInit esr pending s.self)

/-- How many input clocks make a divided tick, by bits 3 and 1:0 of TIMER_DCR: the table of 10_state.md R52. -/
def clocksPerTick (dcr : W32) : Nat :=
  [2, 4, 8, 16, 32, 64, 128, 1].getD ((if dcr.getLsbD 3 then 4 else 0) + dcr.toNat % 4) 1

/-- The next core operation is not preceded by an interrupt that a TPR write has made due
(42_registers_id_to_esr.md R211). -/
def noInterruptDue (s : State) : Prop :=
  s.self.core.tprBoundary = true → s.self.core.intEnabled = true → offered s.self = none

/-- `s` as the core issues an access operation at privilege level `cpl`, with `rest` still to happen. -/
def issuing (cpl : BitVec 2) (rest : List Event) (s : State) : State :=
  { s with
    schedule := rest
    self := { s.self with core := { s.self.core with cpl := cpl, tprBoundary := false } } }

/-- The messages of one command to each of `dsts` (60_exceptions.md R348). -/
def messages (c : Command) (src : W32) (dsts : List W32) : List Msg :=
  dsts.map fun d =>
    { src := src, dst := d, del := c.del, vec := c.vec, trig := c.trig, level := c.level, origin := .sent }

/-- `s` with the command `c` sent to its targets; the free values are those that decide targets the spec leaves open
(notes/assumptions/18.md, 19.md). -/
def sending (c : Command) (s : State) : State :=
  { s with
    inflight := s.inflight ++ messages c s.self.x2apicId (targets c s)
    draws := s.draws + 1 + s.others.length }

/-- The command of an ICR write, from its destination and its low 32 bits (43_registers_icr_to_selfipi.md R262). -/
def commandFields (dest low : W32) : Command where
  dest := dest
  sh := low.extractLsb' 18 2
  trig := low.getLsbD 15
  level := low.getLsbD 14
  dmode := low.getLsbD 11
  del := low.extractLsb' 8 3
  vec := low.extractLsb' 0 8

/-- A command that `send_ipi` sends at once: its delivery mode is neither lowest priority nor reserved, and a fixed
one has a legal vector (43_registers_icr_to_selfipi.md R265, R266, R267). -/
def sendable (c : Command) : Prop :=
  c.del ≠ 1#3 ∧ c.del ≠ 3#3 ∧ c.del ≠ 7#3 ∧ (c.del = 0#3 → 16 ≤ c.vec.toNat)

/-- Nothing is pending, in service or in flight to the acting unit (70_reset_and_hazards.md R427). -/
def quiet (s : State) : Prop :=
  s.self.irr = 0#256 ∧ s.self.isr = 0#256 ∧ ∀ m ∈ s.inflight, m.dst ≠ s.self.x2apicId

/-- A value of IA32_APIC_BASE with no reserved bit set (40_enable_and_mode.md R148), written at CPL 0. -/
def cleanBase (val : W64) (s : State) : Prop :=
  s.self.core.cpl = 0#2 ∧ val.extractLsb' 0 8 = 0#8 ∧ val.getLsbD 9 = false ∧ val.toNat < 2 ^ s.self.hw.maxPhyAddr

/-- EN and EXTD of `val` name a state that the unit has a legal write to (40_enable_and_mode.md R143 to R147). -/
def legalTransition (val : W64) (s : State) : Prop :=
  (val.getLsbD 10 = true → val.getLsbD 11 = true ∧ s.self.hw.x2apicSupported = true)
    ∧ (s.self.mode = .x2apic → val.getLsbD 11 = true → val.getLsbD 10 = true)
    ∧ (s.self.mode = .disabled → val.getLsbD 11 = true → val.getLsbD 10 = false)

/-- A clean value with the unit's own BSP bit (40_enable_and_mode.md R148), EXTD only where the hardware supports
x2APIC mode (R147). -/
def admittedBase (val : W64) (s : State) : Prop :=
  cleanBase val s ∧ val.getLsbD 8 = s.self.base.bsp
    ∧ (val.getLsbD 10 = true → s.self.hw.x2apicSupported = true)

/-! ### Tables -/

/-- The RDMSR and WRMSR rows of one MSR address, the write with its data. -/
structure MsrRow where
  addr : W32
  read : Instr
  write : Instr

/-- The reserved addresses of 43_registers_icr_to_selfipi.md R287. -/
def reservedRows (val : W64) : List MsrRow :=
  [ { addr := 0x83A#32, read := .rdmsrReserved83A, write := .wrmsrReserved83A val },
    { addr := 0x83B#32, read := .rdmsrReserved83B, write := .wrmsrReserved83B val },
    { addr := 0x83C#32, read := .rdmsrReserved83C, write := .wrmsrReserved83C val },
    { addr := 0x83D#32, read := .rdmsrReserved83D, write := .wrmsrReserved83D val } ]

/-- The other reserved addresses below 840H (R205, R225, R233, R255, R270), but for 82FH. -/
def otherReservedRows (val : W64) : List MsrRow :=
  [ { addr := 0x800#32, read := .rdmsrReserved800, write := .wrmsrReserved800 val },
    { addr := 0x801#32, read := .rdmsrReserved801, write := .wrmsrReserved801 val },
    { addr := 0x804#32, read := .rdmsrReserved804, write := .wrmsrReserved804 val },
    { addr := 0x805#32, read := .rdmsrReserved805, write := .wrmsrReserved805 val },
    { addr := 0x806#32, read := .rdmsrReserved806, write := .wrmsrReserved806 val },
    { addr := 0x807#32, read := .rdmsrReserved807, write := .wrmsrReserved807 val },
    { addr := 0x809#32, read := .rdmsrReserved809, write := .wrmsrReserved809 val },
    { addr := 0x80C#32, read := .rdmsrReserved80C, write := .wrmsrReserved80C val },
    { addr := 0x80E#32, read := .rdmsrReserved80E, write := .wrmsrReserved80E val },
    { addr := 0x829#32, read := .rdmsrReserved829, write := .wrmsrReserved829 val },
    { addr := 0x82A#32, read := .rdmsrReserved82A, write := .wrmsrReserved82A val },
    { addr := 0x82B#32, read := .rdmsrReserved82B, write := .wrmsrReserved82B val },
    { addr := 0x82C#32, read := .rdmsrReserved82C, write := .wrmsrReserved82C val },
    { addr := 0x82D#32, read := .rdmsrReserved82D, write := .wrmsrReserved82D val },
    { addr := 0x82E#32, read := .rdmsrReserved82E, write := .wrmsrReserved82E val },
    { addr := 0x831#32, read := .rdmsrReserved831, write := .wrmsrReserved831 val } ]

/-- The writes of read-only registers (41_msr_access.md R178). -/
def readOnlyWrites (k : BitVec 3) (val : W64) : List Instr :=
  [.wrmsrId val, .wrmsrVer val, .wrmsrPpr val, .wrmsrLdr val, .wrmsrIsrk k val, .wrmsrTmrk k val, .wrmsrIrrk k val,
    .wrmsrTimerCcr val]

/-- The writable registers of x2APIC mode but the LVT ones, each with its reserved bits: the unit's `RSVD[reg]`, and
all bits for EOI and ESR, where only zero may be written (10_state.md R29, R34, R41). -/
def writableRows (val : W64) (p : Params) : List (W64 × Instr) :=
  [ (wordRsvd p.rsvd.tpr, .wrmsrTpr val),
    (0xFFFFFFFFFFFFFFFF#64, .wrmsrEoi val),
    (wordRsvd (svrRsvd p), .wrmsrSvr val),
    (0xFFFFFFFFFFFFFFFF#64, .wrmsrEsr val),
    (0#32 ++ p.rsvd.icr, .wrmsrIcr val),
    (wordRsvd p.rsvd.timerIcr, .wrmsrTimerIcr val),
    (wordRsvd p.rsvd.timerDcr, .wrmsrTimerDcr val),
    (wordRsvd p.rsvd.selfIpi, .wrmsrSelfIpi val) ]

/-- An LVT register: its accesses in both modes, the writes with their data, and its masks `WR`, `RO` and `RSVD`
(43_registers_icr_to_selfipi.md R271 to R282). -/
structure LvtRow where
  id : LvtId
  read : Instr
  write : Instr
  load : Instr
  store : Instr
  wr : W32
  ro : W32
  rsvd : W32

/-- The six LVT registers of Table 2-2, with the low halves of the unit's masks `RSVD`. -/
def lvtRows (p : Params) (val : W64) (page : PageNo) (data : W32) : List LvtRow :=
  [ { id := .timer, read := .rdmsrLvtTimer, write := .wrmsrLvtTimer val, load := .loadLvtTimer page,
      store := .storeLvtTimer page data, wr := 0x000300FF#32, ro := 0x1000#32, rsvd := p.rsvd.lvtTimer },
    { id := .thermal, read := .rdmsrLvtThermal, write := .wrmsrLvtThermal val, load := .loadLvtThermal page,
      store := .storeLvtThermal page data, wr := 0x000107FF#32, ro := 0x1000#32, rsvd := p.rsvd.lvtThermal },
    { id := .pmr, read := .rdmsrLvtPmr, write := .wrmsrLvtPmr val, load := .loadLvtPmr page,
      store := .storeLvtPmr page data, wr := 0x000107FF#32, ro := 0x1000#32, rsvd := p.rsvd.lvtPmr },
    { id := .lint0, read := .rdmsrLvtLint0, write := .wrmsrLvtLint0 val, load := .loadLvtLint0 page,
      store := .storeLvtLint0 page data, wr := 0x0001A7FF#32, ro := 0x5000#32, rsvd := p.rsvd.lvtLint0 },
    { id := .lint1, read := .rdmsrLvtLint1, write := .wrmsrLvtLint1 val, load := .loadLvtLint1 page,
      store := .storeLvtLint1 page data, wr := 0x0001A7FF#32, ro := 0x5000#32, rsvd := p.rsvd.lvtLint1 },
    { id := .error, read := .rdmsrLvtError, write := .wrmsrLvtError val, load := .loadLvtError page,
      store := .storeLvtError page data, wr := 0x000100FF#32, ro := 0x1000#32, rsvd := p.rsvd.lvtError } ]

/-- LVT_CMCI at 82FH and 02F0H, which exists with `HAS_LVT_CMCI` (10_state.md R42). -/
def cmciRow (p : Params) (val : W64) (page : PageNo) (data : W32) : LvtRow :=
  { id := .cmci, read := .rdmsrReserved82F, write := .wrmsrReserved82F val, load := .loadReserved page 0x2F#8,
    store := .storeReserved page 0x2F#8 data, wr := 0x000107FF#32, ro := 0x1000#32, rsvd := p.rsvd.lvtCmci }

/-- The LVT registers a unit has. -/
def hasLvtRow (p : Params) (val : W64) (page : PageNo) (data : W32) (r : LvtRow) : Prop :=
  r ∈ lvtRows p val page data ∨ (p.hasLvtCmci = true ∧ r = cmciRow p val page data)

/-- No interrupt of the local source of entry `x` is pending: none accepted and not dispatched, none held
(notes/assumptions/14.md, 15.md). -/
def nonePending (x : LvtId) (s : State) : Prop :=
  (s.self.lvt x).raised &&& s.self.irr = 0#256
    ∧ ∀ m ∈ s.inflight, m.dst = s.self.x2apicId → m.origin ≠ .source x

/-- What an LVT register reads as now, with the bits of `hidden` reading as zero: `val` has the writable bits as
stored, and its status bits are 0 whenever no interrupt from that source is pending (43_registers_icr_to_selfipi.md
R271, R277). Which of them the hardware shows while one is pending is open (notes/assumptions/15.md). -/
def showsLvt (r : LvtRow) (hidden : W32) (s : State) (val : W32) : Prop :=
  val &&& ~~~r.ro = (s.self.lvt r.id).reg &&& r.wr &&& ~~~hidden
    ∧ (nonePending r.id s → val &&& r.ro = 0#32)

/-- `p` is what RDMSR and LOAD of PPR may show (60_exceptions.md R355). -/
def showsPpr (u : Apic) (p : Byte) : Prop :=
  ∀ v, inService u v →
    (priorityClass v < priorityClass u.tpr → p = u.tpr)
    ∧ (priorityClass v = priorityClass u.tpr → p = u.tpr ∨ p = u.tpr &&& 0xF0#8)
    ∧ (priorityClass u.tpr < priorityClass v → p = v &&& 0xF0#8)

/-- The reads of x2APIC mode whose value is a stored or computed register, with that value, reserved bits zero. -/
def plainReads (k : BitVec 3) (u : Apic) : List (Instr × W32) :=
  [ (.rdmsrId, u.hw.x2apicIdHw &&& BitVec.ofNat 32 (2 ^ u.hw.idBits - 1)),
    (.rdmsrVer, BitVec.ofNat 32
      ((if u.hw.directedEoi then 2 ^ 24 else 0) + u.hw.maxLvt.toNat * 2 ^ 16 + u.hw.version.toNat)),
    (.rdmsrTpr, u.tpr.setWidth 32 &&& ~~~u.hw.rsvd.tpr),
    (.rdmsrLdr, u.ldr),
    (.rdmsrSvr, u.svr &&& ~~~(svrRsvd u.hw)),
    (.rdmsrIsrk k, (u.isr >>> (32 * k.toNat)).setWidth 32),
    (.rdmsrTmrk k, (u.tmr >>> (32 * k.toNat)).setWidth 32),
    (.rdmsrIrrk k, (u.irr >>> (32 * k.toNat)).setWidth 32),
    (.rdmsrEsr, u.esr &&& 0x000000F0#32),
    (.rdmsrTimerIcr, u.timerIcr &&& ~~~u.hw.rsvd.timerIcr),
    (.rdmsrTimerCcr, u.count),
    (.rdmsrTimerDcr, u.timerDcr &&& 0x0000000B#32 &&& ~~~u.hw.rsvd.timerDcr) ]

/-- The loads of xAPIC mode whose value is a stored or computed register, with that value (41_msr_access.md R190). -/
def plainLoads (page : PageNo) (k : BitVec 3) (u : Apic) : List (Instr × W32) :=
  [ (.loadId page, u.xapicId.setWidth 32 <<< 24),
    (.loadVer page, BitVec.ofNat 32
      ((if u.hw.directedEoi then 2 ^ 24 else 0) + u.hw.maxLvt.toNat * 2 ^ 16 + u.hw.version.toNat)),
    (.loadTpr page, u.tpr.setWidth 32),
    (.loadLdr page, u.ldr),
    (.loadDfr page, u.dfr),
    (.loadSvr page, u.svr),
    (.loadEsr page, u.esr),
    (.loadTimerIcr page, u.timerIcr),
    (.loadTimerCcr page, u.count),
    (.loadTimerDcr page, u.timerDcr),
    (.loadIsrk page k, (u.isr >>> (32 * k.toNat)).setWidth 32),
    (.loadTmrk page k, (u.tmr >>> (32 * k.toNat)).setWidth 32),
    (.loadIrrk page k, (u.irr >>> (32 * k.toNat)).setWidth 32),
    (.loadIcrHi page, (u.icr >>> 32).setWidth 32) ]

/-- The stores of xAPIC mode that write one register, with what they write (41_msr_access.md R191, R192). -/
def plainStores (page : PageNo) (val : W32) (u : Apic) : List (Instr × Apic) :=
  [ (.storeId page val, { u with xapicId := (val >>> 24).setWidth 8 }),
    (.storeTpr page val,
      { u with tpr := (val &&& ~~~u.hw.rsvd.tpr).setWidth 8, core := { u.core with tprBoundary := true } }),
    (.storeLdr page val, { u with ldr := val &&& 0xFF000000#32 }),
    (.storeDfr page val, { u with dfr := val ||| 0x0FFFFFFF#32 }),
    (.storeSvr page val, { u with svr := val &&& (~~~(svrRsvd u.hw) ||| 0x00000200#32) }),
    (.storeEsr page val, { u with esr := u.esrPending, esrPending := 0#32 }),
    (.storeTimerIcr page val,
      { u with
        timerIcr := val &&& ~~~u.hw.rsvd.timerIcr
        count := val &&& ~~~u.hw.rsvd.timerIcr
        running := val &&& ~~~u.hw.rsvd.timerIcr != 0#32 }),
    (.storeTimerDcr page val, { u with timerDcr := val &&& ~~~u.hw.rsvd.timerDcr }),
    (.storeIcrHi page val, { u with icr := (val &&& 0xFF000000#32) ++ u.icr.setWidth 32 }) ]

/-- The writes of x2APIC mode that write one register, with its reserved bits and what they write. -/
def plainWrites (val : W64) (u : Apic) : List (W64 × Instr × Apic) :=
  [ (wordRsvd u.hw.rsvd.tpr, .wrmsrTpr val,
      { u with tpr := val.setWidth 8, core := { u.core with tprBoundary := true } }),
    (wordRsvd (svrRsvd u.hw), .wrmsrSvr val, { u with svr := val.setWidth 32 }),
    (0xFFFFFFFFFFFFFFFF#64, .wrmsrEsr val, { u with esr := u.esrPending, esrPending := 0#32 }),
    (wordRsvd u.hw.rsvd.timerIcr, .wrmsrTimerIcr val,
      { u with timerIcr := val.setWidth 32, count := val.setWidth 32, running := val != 0#64 }),
    (wordRsvd u.hw.rsvd.timerDcr, .wrmsrTimerDcr val, { u with timerDcr := val.setWidth 32 }) ]

/-- The stores of xAPIC mode that are illegal: to a read-only register, to APR or RRR, to a reserved offset
(41_msr_access.md R175, R191). -/
def illegalStores (page : PageNo) (k : BitVec 3) (val : W32) : List Instr :=
  [.storeVer page val, .storeApr page val, .storePpr page val, .storeRrr page val, .storeTimerCcr page val,
    .storeIsrk page k val, .storeTmrk page k val, .storeIrrk page k val]

/-- `o` is what an EOI signalled in `s` leads to by the default logic (60_exceptions.md R357): with nothing in service,
nothing; otherwise the highest vector in service is cleared, and its EOI is broadcast where it was level-triggered and
directed EOI does not suppress it. Nothing else changes. -/
def signalsEoi (s : State) (o : Outcome) : Prop :=
  (s.self.isr = 0#256 → o = .next (finished s))
  ∧ ∀ v, isHighest s.self.isr v →
      o = .next (finished (withSelf
        { s.self with
          isr := s.self.isr &&& ~~~(bitOf v)
          out := s.self.out ++
            (if s.self.tmr.getLsbD v.toNat = true ∧ ¬ (s.self.hw.directedEoi = true ∧ s.self.svr.getLsbD 12 = true)
              then [.eoiBroadcast v] else []) } s))

end Sys2Proof.Statements

open Sys2Proof Sys2Proof.Machine Sys2Proof.Statements

/-! ### Encoding -/

/-- Decoding what a well-formed operation encodes to gives it back, for every row and every operand value
(30_encoding.md R117, R118). -/
def Obligations.EncodeThenDecode : Prop := ∀ i : Instr, i.wf = true → decode (encode i) = .ok i

/-- Whatever the decoder accepts is the encoding of the well-formed operation it answers: no bit of an access is
dropped and no two accesses are one operation. -/
def Obligations.DecodeThenEncode : Prop :=
  ∀ (a : Access) (i : Instr), decode a = .ok i → i.wf = true ∧ encode i = a

/-- A few words of the map, written out (30_encoding.md R115, R117, R118; 10_state.md R26). -/
def Obligations.MapWordsDecode : Prop :=
  decode (.msrR 0x0000001B#32) = .ok .rdmsrIa32ApicBase
  ∧ decode (.msrR 0x00000802#32) = .ok .rdmsrId
  ∧ decode (.msrW 0x00000808#32 0x20#64) = .ok (.wrmsrTpr 0x20#64)
  ∧ decode (.msrR 0x00000817#32) = .ok (.rdmsrIsrk 7#3)
  ∧ decode (.msrW 0x00000830#32 0x100004040#64) = .ok (.wrmsrIcr 0x100004040#64)
  ∧ decode (.msrR 0x0000083F#32) = .ok .rdmsrSelfIpi
  ∧ decode (.msrR 0x00000BFF#32) = .ok (.rdmsrReserved 0x3FF#10)
  ∧ decode (.mmioR 0x00000000FEE00030#64 4) = .ok (.loadVer 0xFEE00#52)
  ∧ decode (.mmioW 0x00000000FEE00310#64 4 0x01000000#32) = .ok (.storeIcrHi 0xFEE00#52 0x01000000#32)
  ∧ decode (.cpuid 0x0B#32 1#32) = .ok (.cpuid0bh 1#32)
  ∧ decode (.x86 [0x0F#8, 0x30#8]) = .ok .x86Wrmsr

/-! ### The step -/

/-- A step runs the decoded operation: with an access operation next and no interrupt due before it, the step is `exec`
of the decoded operation in the state where the core issues it; and an operation placed by `withFetchWord` is what the
very next step runs, at CPL 0 (notes/assumptions/1.md, 2.md). Issuing it clears the mark of a TPR boundary, the model's
own (notes/assumptions/27.md). -/
def Obligations.StepRunsDecodedAccess : Prop :=
  (∀ (s : State) (cpl : BitVec 2) (a : Access) (rest : List Event) (i : Instr),
    s.schedule = .access cpl a :: rest → noInterruptDue s → decode a = .ok i →
    step s = exec i (issuing cpl rest s))
  ∧ ∀ (s : State) (nbits w : Nat) (i : Instr),
    noInterruptDue s → decodeTableWord nbits w = some i →
    step (s.withFetchWord nbits w) = exec i (issuing 0#2 s.schedule s)

/-- An access that is no row of the map. An MMIO access that is not 4 bytes wide or not at the start of a 16-byte slot
is refused by name (20_memory.md R86), and so are other bytes than the three encodings, which is the model's own
refusal (notes/assumptions/35.md, DESIGN CHOICE). An MSR address outside 1BH and 800H to BFFH and a CPUID of another
leaf are outside the spec and touch nothing of the unit: at CPL above 0 the MSR access raises GP(0) (60_exceptions.md
R370); at CPL 0 it raises GP(0) or completes, the read with a free value; the CPUID answers four free values
(notes/assumptions/40.md, DESIGN CHOICE). Issuing the access clears the mark of a TPR boundary, the model's own
(notes/assumptions/27.md). Where the spec marks a rule used here as general knowledge or its own decision:
notes/assumptions/6.md. -/
def Obligations.AccessesOutsideTheMap : Prop :=
  ∀ (s : State) (cpl : BitVec 2) (a : Access) (rest : List Event),
    s.schedule = .access cpl a :: rest → noInterruptDue s →
    let issued := issuing cpl rest s
    (∀ pa width, width ≠ 4 → a = .mmioR pa width ∨ (∃ val, a = .mmioW pa width val) →
      step s = .refused (.undecoded .mmioWidth))
    ∧ (∀ pa : W64, pa.toNat % 16 ≠ 0 → a = .mmioR pa 4 ∨ (∃ val, a = .mmioW pa 4 val) →
      step s = .refused (.undecoded .mmioMisaligned))
    ∧ (∀ bytes, bytes ∉ [[0x0F#8, 0x32#8], [0x0F#8, 0x30#8], [0x0F#8, 0xA2#8]] → a = .x86 bytes →
      step s = .refused (.undecoded .notAnX86Encoding))
    ∧ (∀ addr, addr ≠ 0x1B#32 → ¬ inMsrRange addr →
      (a = .msrR addr → (step s = .next (gp issued))
        ∨ (cpl = 0#2 ∧ ∃ v, step s = .next (withAnswer (.value v) (drawing 1 issued))))
      ∧ (∀ val, a = .msrW addr val → (step s = .next (gp issued)) ∨ (cpl = 0#2 ∧ step s = .next (finished issued))))
    ∧ (∀ leaf sub, leaf ≠ 0x01#32 → leaf ≠ 0x0B#32 → a = .cpuid leaf sub →
      ∃ eax ebx ecx edx, step s = .next (withAnswer (.cpuid eax ebx ecx edx) (drawing 4 issued)))

/-- The TPR promise (42_registers_id_to_esr.md R211; 60_exceptions.md R350 (b)): at the boundary right after a TPR
write, with the core's interrupts on, an offered interrupt is taken instead of the core's next instruction, which stays
next. What taking it moves is the default logic's (R353; notes/assumptions/5.md). Three things are the model's
choice: the mark `tprBoundary` of the boundary (notes/assumptions/27.md), the sampled offer, which taking drops
(notes/assumptions/28.md), and that the vector is taken out of every local source's record (notes/assumptions/15.md).
Where the spec marks a rule used here as general knowledge or its own decision: notes/assumptions/6.md. -/
def Obligations.TprWriteIsReflectedBeforeTheNextInstruction : Prop :=
  ∀ (s : State) (e : Event) (rest : List Event) (v : Byte),
    s.schedule = e :: rest → isInstruction e = true → s.self.core.tprBoundary = true →
    s.self.core.intEnabled = true → offered s.self = some v → standard s.self →
    step s = .next (withSelf
      { s.self.unraise v with
        irr := s.self.irr &&& ~~~(bitOf v)
        isr := s.self.isr ||| bitOf v
        core := { s.self.core with sampled := false, tprBoundary := false }
        out := s.self.out ++ [.taken v] } s)

/-- The vector offered is the highest one pending, and only when its class is above the processor priority class, the
greater of TPR's and the highest in-service vector's (60_exceptions.md R355, R356, the default logic). Where the spec
marks a rule used here as general knowledge or its own decision: notes/assumptions/6.md. -/
def Obligations.OfferIsHighestAbovePriority : Prop :=
  ∀ (u : Apic) (v isrv : Byte), standard u → inService u isrv →
    (offered u = some v ↔
      isHighest u.irr v ∧ priorityClass u.tpr < priorityClass v ∧ priorityClass isrv < priorityClass v)

/-- Taking an interrupt (60_exceptions.md R353, R359, R361): with the core's interrupts on, the offered vector moves
from IRR to ISR (the default logic), and waits in no local source's entry any more (notes/assumptions/15.md); with
nothing offered any more, a core that has sampled an offer gets the spurious vector SVR[7:0] and no ISR bit is set;
otherwise there is nothing to take (notes/assumptions/28.md, 33.md). Taking drops the sampled offer and the mark of a
TPR boundary, the model's own (notes/assumptions/27.md, 28.md). Where the spec marks a rule used here as general
knowledge or its own decision: notes/assumptions/6.md. -/
def Obligations.TakingAnInterrupt : Prop :=
  ∀ (s : State) (rest : List Event), s.schedule = .take :: rest →
    (s.self.core.intEnabled = true →
      (∀ v, offered s.self = some v → standard s.self →
        step s = .next { s with
          schedule := rest
          self := { s.self.unraise v with
            irr := s.self.irr &&& ~~~(bitOf v)
            isr := s.self.isr ||| bitOf v
            core := { s.self.core with sampled := false, tprBoundary := false }
            out := s.self.out ++ [.taken v] } })
      ∧ (offered s.self = none → s.self.core.sampled = true →
        step s = .next { s with
          schedule := rest
          self := { s.self with
            core := { s.self.core with sampled := false, tprBoundary := false }
            out := s.self.out ++ [.spurious (s.self.svr.setWidth 8)] } })
      ∧ (offered s.self = none → s.self.core.sampled = false → step s = .fault .nothingToTake))
    ∧ (s.self.core.intEnabled = false → step s = .fault .nothingToTake)

/-! ### The general-protection exception -/

/-- RDMSR and WRMSR at 83AH to 83DH and 840H to BFFH always raise GP(0), whatever the state and the data
(43_registers_icr_to_selfipi.md R287, R305). -/
def Obligations.ReservedAddressesRaiseGp : Prop :=
  ∀ (s : State) (val : W64),
    (∀ r ∈ reservedRows val,
      decode (.msrR r.addr) = .ok r.read ∧ exec r.read s = .next (gp s)
      ∧ decode (.msrW r.addr val) = .ok r.write ∧ exec r.write s = .next (gp s))
    ∧ ∀ addr : W32, 0x840 ≤ addr.toNat → addr.toNat ≤ 0xBFF →
      decode (.msrR addr) = .ok (.rdmsrReserved (addr.setWidth 10))
      ∧ exec (.rdmsrReserved (addr.setWidth 10)) s = .next (gp s)
      ∧ decode (.msrW addr val) = .ok (.wrmsrReserved (addr.setWidth 10) val)
      ∧ exec (.wrmsrReserved (addr.setWidth 10) val) s = .next (gp s)

/-- The other reserved addresses below 840H (R205, R225, R233, R255, R270) raise GP(0) always, 82FH where there is no
LVT_CMCI (10_state.md R42, the spec's default); so does a WRMSR of a read-only register (41_msr_access.md R178) and a
RDMSR of EOI (R220). The last two are the spec's decision D5; that the addresses but 831H are reserved is its general
knowledge GK4 (notes/assumptions/6.md). -/
def Obligations.ForbiddenAccessesRaiseGp : Prop :=
  ∀ (s : State) (val : W64),
    (∀ r ∈ otherReservedRows val,
      decode (.msrR r.addr) = .ok r.read ∧ exec r.read s = .next (gp s)
      ∧ decode (.msrW r.addr val) = .ok r.write ∧ exec r.write s = .next (gp s))
    ∧ (s.self.hw.hasLvtCmci = false →
      exec .rdmsrReserved82F s = .next (gp s) ∧ exec (.wrmsrReserved82F val) s = .next (gp s))
    ∧ (∀ k, ∀ i ∈ readOnlyWrites k val, exec i s = .next (gp s))
    ∧ exec .rdmsrEoi s = .next (gp s)

/-- RDMSR of SELF IPI always raises GP(0) (43_registers_icr_to_selfipi.md R300). -/
def Obligations.SelfIpiReadRaisesGp : Prop :=
  decode (.msrR 0x83F#32) = .ok .rdmsrSelfIpi ∧ ∀ s : State, exec .rdmsrSelfIpi s = .next (gp s)

/-- Outside x2APIC mode every RDMSR and WRMSR of 800H to BFFH raises GP(0), whatever the address and the value
(41_msr_access.md R171; the spec's decision D4 for all but SELF IPI). Where the spec marks a rule used here as general
knowledge or its own decision: notes/assumptions/6.md. -/
def Obligations.MsrsFaultOutsideX2apicMode : Prop :=
  ∀ (s : State) (addr : W32), s.self.mode ≠ .x2apic → inMsrRange addr →
    (∃ i, decode (.msrR addr) = .ok i ∧ exec i s = .next (gp s))
    ∧ ∀ val, ∃ i, decode (.msrW addr val) = .ok i ∧ exec i s = .next (gp s)

/-- With CPL above 0 every RDMSR and WRMSR, by its row or by its bytes, raises GP(0) (60_exceptions.md R370, general
knowledge GK8). Where the spec marks a rule used here as general knowledge or its own decision: notes/assumptions/6.md.
-/
def Obligations.MsrsFaultAboveCplZero : Prop :=
  ∀ s : State, s.self.core.cpl ≠ 0#2 →
    (∀ addr i, decode (.msrR addr) = .ok i → exec i s = .next (gp s))
    ∧ (∀ addr val i, decode (.msrW addr val) = .ok i → exec i s = .next (gp s))
    ∧ exec .x86Rdmsr s = .next (gp s) ∧ exec .x86Wrmsr s = .next (gp s)

/-- For every register but the ICR bits 63:32 of the data word are reserved: a WRMSR that sets one raises GP(0), a
RDMSR returns them as zero (41_msr_access.md R177, the spec's decision D7). Where the spec marks a rule used here as
general knowledge or its own decision: notes/assumptions/6.md. -/
def Obligations.UpperHalfOfTheDataWordIsReserved : Prop :=
  ∀ (s : State) (addr : W32), inMsrRange addr → addr ≠ 0x830#32 →
    (∀ val i, val.extractLsb' 32 32 ≠ 0#32 → decode (.msrW addr val) = .ok i → exec i s = .next (gp s))
    ∧ ∀ i t v, decode (.msrR addr) = .ok i → exec i s = .next t → t.self.core.answer = .value v →
      v.extractLsb' 32 32 = 0#32

/-- A 1 written by WRMSR to a reserved bit of a register raises GP(0) (41_msr_access.md R176), for every value of the
unit's masks `RSVD[reg]`, and so does a 1 written to a read-only status bit of an LVT register where RO_BIT_WRITE is
fault (R180). At reset every unit has the default masks of 10_state.md R32 to R53 (notes/assumptions/5.md). Where the
spec marks a rule used here as general knowledge or its own decision: notes/assumptions/6.md. -/
def Obligations.ReservedBitsRaiseGp : Prop :=
  (∀ (s : State) (val : W64),
    (∀ r ∈ writableRows val s.self.hw, val &&& r.1 ≠ 0#64 → exec r.2 s = .next (gp s))
    ∧ ∀ page data r, hasLvtRow s.self.hw val page data r →
      (val &&& wordRsvd r.rsvd ≠ 0#64 → exec r.write s = .next (gp s))
      ∧ (s.self.hw.roBitWrite = .fault → val &&& r.ro.setWidth 64 ≠ 0#64 → exec r.write s = .next (gp s)))
  ∧ ∀ u ∈ State.reset.self :: State.reset.others, u.hw.rsvd =
      { tpr := 0xFFFFFF00#32, svr := 0xFFFFEE00#32, icr := 0xFFF33000#32,
        lvtTimer := 0xFFFCEF00#32, lvtThermal := 0xFFFEE800#32, lvtPmr := 0xFFFEE800#32, lvtLint0 := 0xFFFE0800#32,
        lvtLint1 := 0xFFFE0800#32, lvtError := 0xFFFEEF00#32, lvtCmci := 0xFFFEE800#32,
        timerIcr := 0#32, timerDcr := 0xFFFFFFF4#32, selfIpi := 0xFFFFFF00#32 }

/-- Every GP(0) is the same: an operation that answers an exception answers vector 13 with error code 0 and changes
nothing else, whatever the operation and the cause (60_exceptions.md R340, R342). That the vector is 13 and that
nothing else changes is the spec's general knowledge GK7 and the model's choice (notes/assumptions/7.md). -/
def Obligations.EveryGpIsTheSameAndChangesNothing : Prop :=
  ∀ (i : Instr) (s t : State) (vector : Byte) (code : W32),
    exec i s = .next t → t.self.core.answer = .exception vector code → t = gp s

/-! ### What an operation cannot touch -/

/-- Only a write of IA32_APIC_BASE changes the mode MSR, and so the mode: no other operation changes any bit of it
(40_enable_and_mode.md R142; 60_exceptions.md R371). -/
def Obligations.OnlyBaseWritesChangeTheMode : Prop :=
  ∀ (i : Instr) (s t : State), exec i s = .next t → t.self.base ≠ s.self.base →
    (∃ val, i = .wrmsrIa32ApicBase val) ∨ (i = .x86Wrmsr ∧ s.self.core.ecx = 0x1B#32)

/-- A core's operation works on its own unit alone: the other units, the schedule and the parameters are untouched, and
messages in flight are only added to (60_exceptions.md R372; 10_state.md R76). -/
def Obligations.OperationsTouchOnlyTheOwnUnit : Prop :=
  ∀ (i : Instr) (s t : State), exec i s = .next t →
    t.others = s.others ∧ t.schedule = s.schedule ∧ t.self.hw = s.self.hw
    ∧ ∃ sent, t.inflight = s.inflight ++ sent

/-- Reads change nothing: after a RDMSR, a CPUID or a legal LOAD, only the answer differs, and how many free values
have been used (20_memory.md R89). Where the spec marks a rule used here as general knowledge or its own decision:
notes/assumptions/6.md. -/
def Obligations.ReadsChangeNothing : Prop :=
  ∀ (i : Instr) (s t : State), exec i s = .next t →
    ((∃ addr, encode i = .msrR addr) ∨ (∃ leaf sub, encode i = .cpuid leaf sub)
      ∨ ((∃ pa width, encode i = .mmioR pa width)
          ∧ (∀ page, i ≠ .loadEoi page)
          ∧ ∀ page slot, i = .loadReserved page slot → slot = 0x2F#8 ∧ s.self.hw.hasLvtCmci = true)) →
    t = withAnswer t.self.core.answer { s with draws := t.draws }

/-! ### Invariants -/

/-- Every step keeps the invariant of Safety.lean: in every unit of the platform a legal mode with its BSP bit, with
the default interrupt logic no vector below 16 and nothing pending in a Disabled unit, the LDR and the local xAPIC ID
of x2APIC mode, reserved bits zero, a bounded count; and no two units with one x2APIC ID. Where the spec marks a rule
used here as general knowledge or its own decision: notes/assumptions/6.md. -/
def Obligations.StepKeepsTheInvariant : Prop :=
  ∀ s t : State, PlatformInv s → step s = .next t → PlatformInv t

/-- The state after RESET of every unit meets the invariant. Part of it is the model's: that the parameters are opaque
constants brought within the spec's constraints, with MAXPHYADDR between 32 and 64 (notes/assumptions/4.md), and that
the errors after RESET are free values in bits 7:0 (notes/assumptions/9.md). Where the spec marks a rule used here as
general knowledge or its own decision: notes/assumptions/6.md. -/
def Obligations.ResetMeetsTheInvariant : Prop := PlatformInv State.reset

/-- `mode() != Invalid` in every reachable state (10_state.md R25): at reset no unit is in it, and no step brings one
into it. -/
def Obligations.InvalidModeIsNeverReached : Prop :=
  (State.reset.self.mode ≠ .invalid ∧ ∀ u ∈ State.reset.others, u.mode ≠ .invalid)
  ∧ ∀ s t : State, s.self.mode ≠ .invalid → (∀ u ∈ s.others, u.mode ≠ .invalid) → step s = .next t →
    t.self.mode ≠ .invalid ∧ ∀ u ∈ t.others, u.mode ≠ .invalid

/-! ### Reads of x2APIC mode -/

/-- RDMSR of ID, VER, TPR, LDR, SVR, ISRk, TMRk, IRRk, ESR, TIMER_ICR, TIMER_CCR, TIMER_DCR answers the register,
zero-extended, with its reserved bits zero, and changes nothing (R200, R202, R210, R230, R235, R240, R242, R244, R250,
R283, R285, R288). Where the spec marks a rule used here as general knowledge or its own decision:
notes/assumptions/6.md. -/
def Obligations.RdmsrAnswersTheRegister : Prop :=
  ∀ (s : State) (k : BitVec 3), hears s →
    ∀ r ∈ plainReads k s.self, exec r.1 s = .next (withAnswer (.value (r.2.setWidth 64)) s)

/-- RDMSR and LOAD of PPR answer the processor priority (42_registers_id_to_esr.md R215; 60_exceptions.md R355); with
equal classes, one of the two values that rule allows (notes/assumptions/13.md). Where the spec marks a rule used here
as general knowledge or its own decision: notes/assumptions/6.md. -/
def Obligations.PprReadsAnswerTheProcessorPriority : Prop :=
  ∀ s : State, standard s.self →
    (hears s → ∃ p, showsPpr s.self p ∧
      exec .rdmsrPpr s = .next (withAnswer (.value (p.setWidth 64)) (drawing 1 s)))
    ∧ ∀ page, atPage page s → ∃ p, showsPpr s.self p ∧
      exec (.loadPpr page) s = .next (withAnswer (.data (p.setWidth 32)) (drawing 1 s))

/-- RDMSR of ICR answers a free value whose reserved bits are zero; it sends nothing and changes
nothing (43_registers_icr_to_selfipi.md R261). The free value is the run's next one (notes/assumptions/12.md). -/
def Obligations.IcrReadAnswersAnOpenValue : Prop :=
  ∀ s : State, hears s →
    exec .rdmsrIcr s
      = .next (withAnswer (.value (Config.free s.draws &&& ~~~(0#32 ++ s.self.hw.rsvd.icr))) (drawing 1 s))

/-- RDMSR and LOAD of an LVT register, LVT_CMCI among them where the unit has it, answer the writable bits and the
status bits, which are zero whenever no interrupt of the source is pending (R271 to R282; 10_state.md R42;
41_msr_access.md R190); a RDMSR shows reserved bits as zero (R176). Which status bits show while an interrupt is
pending is a free value (notes/assumptions/15.md, 23.md). Where the spec marks a rule used here as general knowledge or
its own decision: notes/assumptions/6.md. -/
def Obligations.LvtReadsAnswerTheEntry : Prop :=
  ∀ (s : State) (val : W64) (page : PageNo) (data : W32) (r : LvtRow), hasLvtRow s.self.hw val page data r →
    (hears s → ∃ w, showsLvt r r.rsvd s w ∧ exec r.read s = .next (withAnswer (.value (w.setWidth 64)) (drawing 1 s)))
    ∧ (atPage page s → ∃ w, showsLvt r 0#32 s w ∧ exec r.load s = .next (withAnswer (.data w) (drawing 1 s)))

/-! ### Writes of x2APIC mode -/

/-- WRMSR of TPR, SVR, ESR, TIMER_ICR and TIMER_DCR without reserved bits writes the register and nothing else: the ESR
latches the errors detected and clears them, TIMER_ICR starts the count, a TPR write marks the boundary of its promise
(R211, R236, R251, R284, R289; 60_exceptions.md R365; notes/assumptions/27.md). It is the model's choice that an SVR
write which software-disables the unit changes no other register (notes/assumptions/41.md), and that a write of
TIMER_ICR or TIMER_DCR leaves the fraction of a divided tick as it is (notes/assumptions/29.md). Where the spec
marks a rule used here as general knowledge or its own decision: notes/assumptions/6.md. -/
def Obligations.WrmsrWritesTheRegister : Prop :=
  ∀ (s : State) (val : W64), hears s →
    ∀ r ∈ plainWrites val s.self, val &&& r.1 = 0#64 → exec r.2.1 s = .next (finished (withSelf r.2.2 s))

/-- A write of an LVT register stores its writable bits and nothing else: by WRMSR without reserved bits, and without
read-only bits unless they are ignored (R272 to R282, R180); by STORE with any value, of which the reserved bits are
discarded (41_msr_access.md R191). LVT_CMCI at MMIO offset 02F0H is the model's reading (notes/assumptions/23.md).
Where the spec marks a rule used here as general knowledge or its own decision: notes/assumptions/6.md. -/
def Obligations.LvtWritesStoreTheWritableBits : Prop :=
  ∀ (s : State) (val : W64) (page : PageNo) (data : W32) (r : LvtRow), hasLvtRow s.self.hw val page data r →
    (hears s → val &&& wordRsvd r.rsvd = 0#64 → (s.self.hw.roBitWrite = .ignore ∨ val &&& r.ro.setWidth 64 = 0#64) →
      exec r.write s = .next (finished (withSelf
        (s.self.withLvt r.id { s.self.lvt r.id with reg := val.setWidth 32 &&& r.wr }) s)))
    ∧ (atPage page s →
      exec r.store s = .next (finished (withSelf
        (s.self.withLvt r.id { s.self.lvt r.id with reg := data &&& r.wr &&& ~~~r.rsvd }) s)))

/-- An EOI write, zero by WRMSR and any value by STORE, signals the end of the highest interrupt in service
(42_registers_id_to_esr.md R221; 41_msr_access.md R191; 60_exceptions.md R357, the default logic). Where the spec marks
a rule used here as general knowledge or its own decision: notes/assumptions/6.md. -/
def Obligations.EoiWritesSignalTheEnd : Prop :=
  ∀ s : State, standard s.self →
    (hears s → signalsEoi s (exec (.wrmsrEoi 0#64) s))
    ∧ ∀ page val, atPage page s → signalsEoi s (exec (.storeEoi page val) s)

/-- WRMSR of ICR with a sendable command stores it and puts one message per target in flight, and nothing else
(43_registers_icr_to_selfipi.md R262; 60_exceptions.md R348). Where the spec marks a rule used here as general
knowledge or its own decision: notes/assumptions/6.md. -/
def Obligations.IcrWriteSends : Prop :=
  ∀ (s : State) (val : W64), hears s → val.setWidth 32 &&& s.self.hw.rsvd.icr = 0#32 →
    sendable (commandFields ((val >>> 32).setWidth 32) (val.setWidth 32)) →
    exec (.wrmsrIcr val) s = .next (finished (withSelf { s.self with icr := val }
      (sending (commandFields ((val >>> 32).setWidth 32) (val.setWidth 32)) s)))

/-- The targets of a command where every unit is in x2APIC mode: the sender, all units, all but the sender by
shorthand; without one, all units for FFFF_FFFFH in either destination mode, the unit of that x2APIC ID, or the units
of that cluster with a common logical bit (43_registers_icr_to_selfipi.md R263, R264). Where the spec marks a rule used
here as general knowledge or its own decision: notes/assumptions/6.md. -/
def Obligations.TargetsOfACommand : Prop :=
  ∀ (c : Command) (s : State), s.self.mode = .x2apic → (∀ u ∈ s.others, u.mode = .x2apic) →
    (c.sh = 1#2 → targets c s = [s.self.x2apicId])
    ∧ (c.sh = 2#2 → targets c s = (s.self :: s.others).map Apic.x2apicId)
    ∧ (c.sh = 3#2 → targets c s = s.others.map Apic.x2apicId)
    ∧ (c.sh = 0#2 → c.dest = 0xFFFFFFFF#32 → targets c s = (s.self :: s.others).map Apic.x2apicId)
    ∧ (c.sh = 0#2 → c.dest ≠ 0xFFFFFFFF#32 → c.dmode = false →
        targets c s = ((s.self :: s.others).filter fun u : Apic => u.x2apicId == c.dest).map Apic.x2apicId)
    ∧ (c.sh = 0#2 → c.dest ≠ 0xFFFFFFFF#32 → c.dmode = true →
        targets c s = ((s.self :: s.others).filter fun u : Apic =>
          (u.ldr >>> 16) == (c.dest >>> 16) && (u.ldr &&& c.dest &&& 0x0000FFFF#32) != 0#32).map Apic.x2apicId)

/-- A lowest-priority ICR write of x2APIC mode sends nothing: it is stored, and logged as Redirectible IPI, bit 4
(43_registers_icr_to_selfipi.md R265; 60_exceptions.md R345). Where the spec marks a rule used here as general
knowledge or its own decision: notes/assumptions/6.md. -/
def Obligations.LowestPriorityIsLoggedNotSent : Prop :=
  ∀ (s : State) (val : W64), hears s → val.setWidth 32 &&& s.self.hw.rsvd.icr = 0#32 → val.extractLsb' 8 3 = 1#3 →
    ∃ t, logsError 4 (withSelf { s.self with icr := val } s) t ∧ exec (.wrmsrIcr val) s = .next (finished t)

/-- A fixed send of a vector below 16, by ICR or by SELF IPI, is logged as Send Illegal Vector, bit 5, and the message
leaves or does not, which the spec leaves open (43_registers_icr_to_selfipi.md R266, R301; 60_exceptions.md R345).
Where the spec marks a rule used here as general knowledge or its own decision: notes/assumptions/6.md. -/
def Obligations.IllegalVectorSendIsLogged : Prop :=
  ∀ (s : State) (val : W64), hears s →
    (val.setWidth 32 &&& s.self.hw.rsvd.icr = 0#32 → val.extractLsb' 8 3 = 0#3 → (val.extractLsb' 0 8).toNat < 16 →
      ∃ t, logsError 5 (withSelf { s.self with icr := val } s) t ∧
        (exec (.wrmsrIcr val) s = .next (finished (drawing 1 t))
          ∨ exec (.wrmsrIcr val) s = .next (finished
              (sending (commandFields ((val >>> 32).setWidth 32) (val.setWidth 32)) (drawing 1 t)))))
    ∧ (val.toNat < 16 → val.setWidth 32 &&& s.self.hw.rsvd.selfIpi = 0#32 → ∃ t, logsError 5 s t ∧
        (exec (.wrmsrSelfIpi val) s = .next (finished (drawing 1 t))
          ∨ exec (.wrmsrSelfIpi val) s = .next (finished
              (sending (commandFields 0#32 (0x00044000#32 ||| val.setWidth 32)) (drawing 1 t)))))

/-- An ICR write with delivery mode 011 or 111 is refused by name, by WRMSR and by STORE
(43_registers_icr_to_selfipi.md R267: "the model refuses them"). -/
def Obligations.ReservedDeliveryModesAreRefused : Prop :=
  ∀ s : State,
    (∀ val : W64, hears s → val.setWidth 32 &&& s.self.hw.rsvd.icr = 0#32 →
      val.extractLsb' 8 3 = 3#3 ∨ val.extractLsb' 8 3 = 7#3 →
      exec (.wrmsrIcr val) s = .refused .reservedDeliveryMode)
    ∧ ∀ (page : PageNo) (val : W32), atPage page s →
      (val &&& ~~~s.self.hw.rsvd.icr).extractLsb' 8 3 = 3#3 ∨ (val &&& ~~~s.self.hw.rsvd.icr).extractLsb' 8 3 = 7#3 →
      exec (.storeIcrLo page val) s = .refused .reservedDeliveryMode

/-- WRMSR of SELF IPI with a legal vector puts one fixed, edge-triggered message from the unit to itself in flight, and
nothing else (43_registers_icr_to_selfipi.md R301). Where the spec marks a rule used here as general knowledge or its
own decision: notes/assumptions/6.md. -/
def Obligations.SelfIpiWriteSendsToItself : Prop :=
  ∀ (s : State) (vec : Byte), hears s → 16 ≤ vec.toNat → vec.setWidth 32 &&& s.self.hw.rsvd.selfIpi = 0#32 →
    exec (.wrmsrSelfIpi (vec.setWidth 64)) s = .next (finished
      { s with
        inflight := s.inflight ++
          [{ src := s.self.x2apicId, dst := s.self.x2apicId, del := 0#3, vec := vec, trig := false, level := true,
             origin := .sent }]
        draws := s.draws + 1 + s.others.length })

/-- A SELF IPI write and the ICR write with shorthand self, edge, assert, fixed and the same vector lead to the same
state, but for the stored ICR, which only the second changes (43_registers_icr_to_selfipi.md R301). -/
def Obligations.SelfIpiIsTheIcrSelfSend : Prop :=
  ∀ (s : State) (vec : Byte), hears s → vec.setWidth 32 &&& s.self.hw.rsvd.selfIpi = 0#32 →
    (0x00044000#32 ||| vec.setWidth 32) &&& s.self.hw.rsvd.icr = 0#32 → ∃ t u,
    exec (.wrmsrSelfIpi (vec.setWidth 64)) s = .next t
    ∧ exec (.wrmsrIcr (0x0000000000044000#64 ||| vec.setWidth 64)) s = .next u
    ∧ t.self.icr = s.self.icr
    ∧ u = withSelf { t.self with icr := 0x0000000000044000#64 ||| vec.setWidth 64 } t

/-! ### IA32_APIC_BASE -/

/-- RDMSR of IA32_APIC_BASE at CPL 0 answers the page, EN, EXTD and BSP at their places, in every mode
(40_enable_and_mode.md R141). Where the spec marks a rule used here as general knowledge or its own decision:
notes/assumptions/6.md. -/
def Obligations.BaseReadAnswersTheFields : Prop :=
  ∀ s : State, s.self.core.cpl = 0#2 →
    exec .rdmsrIa32ApicBase s = .next (withAnswer (.value
      ((s.self.base.page.setWidth 64 <<< 12) ||| ((BitVec.ofBool s.self.base.en).setWidth 64 <<< 11)
        ||| ((BitVec.ofBool s.self.base.extd).setWidth 64 <<< 10)
        ||| ((BitVec.ofBool s.self.base.bsp).setWidth 64 <<< 8))) s)

/-- If the value written to IA32_APIC_BASE has EN=0 and EXTD=1, WRMSR raises GP(0) whatever the current state
(40_enable_and_mode.md R143), also where the value would change BSP, which the pseudocode of R142 tests first
(notes/assumptions/36.md). -/
def Obligations.InvalidCombinationRaisesGp : Prop :=
  ∀ (s : State) (val : W64), val.getLsbD 11 = false → val.getLsbD 10 = true →
    exec (.wrmsrIa32ApicBase val) s = .next (gp s)

/-- A write of IA32_APIC_BASE raises GP(0) for a reserved bit (R148) and, where it keeps the BSP bit, for EXTD without
x2APIC support (R147), from x2APIC to xAPIC mode (R145) and from Disabled to x2APIC mode (R146): the tests of
40_enable_and_mode.md R142 in its order (notes/assumptions/36.md for the one exception, EN=0 with EXTD=1). Where the
spec marks a rule used here as general knowledge or its own decision: notes/assumptions/6.md. -/
def Obligations.IllegalBaseWritesRaiseGp : Prop :=
  ∀ (s : State) (val : W64),
    (val.extractLsb' 0 8 ≠ 0#8 ∨ val.getLsbD 9 = true ∨ 2 ^ s.self.hw.maxPhyAddr ≤ val.toNat →
      exec (.wrmsrIa32ApicBase val) s = .next (gp s))
    ∧ (val.getLsbD 8 = s.self.base.bsp →
      (val.getLsbD 10 = true ∧ s.self.hw.x2apicSupported = false)
        ∨ (s.self.mode = .x2apic ∧ val.getLsbD 11 = true ∧ val.getLsbD 10 = false)
        ∨ (s.self.mode = .disabled ∧ val.getLsbD 11 = true ∧ val.getLsbD 10 = true) →
      exec (.wrmsrIa32ApicBase val) s = .next (gp s))

/-- The two writes of IA32_APIC_BASE that the spec refuses: one without reserved bits that would change BSP
(40_enable_and_mode.md R142, R148), but for the combination EN=0, EXTD=1 (R143; notes/assumptions/36.md); and a legal
change of mode while an interrupt is pending, in service or in flight to the unit (70_reset_and_hazards.md R427). -/
def Obligations.RefusedBaseWrites : Prop :=
  ∀ (s : State) (val : W64), cleanBase val s →
    (val.getLsbD 8 ≠ s.self.base.bsp → (val.getLsbD 10 = true → val.getLsbD 11 = true) →
      exec (.wrmsrIa32ApicBase val) s = .refused .bspFlagChange)
    ∧ (val.getLsbD 8 = s.self.base.bsp → legalTransition val s → ¬ quiet s →
      (val.getLsbD 11 ≠ s.self.base.en ∨ val.getLsbD 10 ≠ s.self.base.extd) →
      exec (.wrmsrIa32ApicBase val) s = .refused .pendingAtModeChange)

/-- A write of IA32_APIC_BASE that keeps EN and EXTD stores the new page and changes nothing else, in each valid mode
(40_enable_and_mode.md R149). Where the spec marks a rule used here as general knowledge or its own decision:
notes/assumptions/6.md. -/
def Obligations.BaseWriteThatKeepsTheMode : Prop :=
  ∀ (s : State) (val : W64), admittedBase val s → s.self.mode ≠ .invalid →
    val.getLsbD 11 = s.self.base.en → val.getLsbD 10 = s.self.base.extd →
    exec (.wrmsrIa32ApicBase val) s = .next (finished (withSelf
      { s.self with base := { s.self.base with page := (val >>> 12).setWidth 52 } } s))

/-- Entering x2APIC mode from xAPIC mode (40_enable_and_mode.md R150): the LDR is the logical x2APIC ID, the local
xAPIC ID is the hardware's again, the ICR's high half takes a free value (notes/assumptions/12.md), every other
register keeps its value, TMR among them (notes/assumptions/22.md). That the timer's count, its run state and its
fraction are kept too is the model's choice (notes/assumptions/42.md). Where the spec marks a rule used here as general
knowledge or its own decision: notes/assumptions/6.md. -/
def Obligations.EnteringX2apicMode : Prop :=
  ∀ (s : State) (val : W64), admittedBase val s → s.self.mode = .xapic → quiet s →
    val.getLsbD 11 = true → val.getLsbD 10 = true → ∃ high : W32,
    exec (.wrmsrIa32ApicBase val) s = .next (finished (drawing 1 (withSelf
      { s.self with
        base := { s.self.base with page := (val >>> 12).setWidth 52, en := true, extd := true }
        xapicId := s.self.hw.x2apicIdHw.setWidth 8
        ldr := logicalX2apicId s.self.x2apicId
        icr := high ++ s.self.icr.setWidth 32 } s)))

/-- Entering Disabled from xAPIC or x2APIC mode (40_enable_and_mode.md R144, R145): the IDs, the parameters and what
has left the unit are kept, IRR, ISR and TMR are 0, every other register takes a free value within its existing bits
(notes/assumptions/10.md, 11.md), but for an LVT_CMCI that the unit does not have (10_state.md R42). Where the spec
marks a rule used here as general knowledge or its own decision: notes/assumptions/6.md. -/
def Obligations.EnteringDisabled : Prop :=
  ∀ (s : State) (val : W64), admittedBase val s → s.self.mode = .xapic ∨ s.self.mode = .x2apic → quiet s →
    val.getLsbD 11 = false → val.getLsbD 10 = false → ∃ t,
    exec (.wrmsrIa32ApicBase val) s = .next t
    ∧ t.self.base = { s.self.base with page := (val >>> 12).setWidth 52, en := false, extd := false }
    ∧ t.self.hw = s.self.hw ∧ t.self.xapicId = s.self.xapicId
    ∧ t.self.irr = 0#256 ∧ t.self.isr = 0#256 ∧ t.self.tmr = 0#256
    ∧ TimerInv t.self ∧ (lvtHeld .cmci s.self.lvtCmci → ReservedInv t.self)
    ∧ (s.self.hw.hasLvtCmci = false → t.self.lvtCmci = s.self.lvtCmci)
    ∧ t.self.core = { s.self.core with answer := .done } ∧ t.self.out = s.self.out
    ∧ t.others = s.others ∧ t.inflight = s.inflight ∧ t.schedule = s.schedule

/-- Leaving Disabled for xAPIC mode (40_enable_and_mode.md R146): the local xAPIC ID is the low byte of the hardware's
ID, IRR, ISR and TMR are 0, every other register takes a free value within its existing bits (notes/assumptions/10.md,
11.md), but for an LVT_CMCI that the unit does not have (10_state.md R42). Where the spec marks a rule used here as
general knowledge or its own decision: notes/assumptions/6.md. -/
def Obligations.LeavingDisabled : Prop :=
  ∀ (s : State) (val : W64), admittedBase val s → s.self.mode = .disabled → quiet s →
    val.getLsbD 11 = true → val.getLsbD 10 = false → ∃ t,
    exec (.wrmsrIa32ApicBase val) s = .next t
    ∧ t.self.base = { s.self.base with page := (val >>> 12).setWidth 52, en := true, extd := false }
    ∧ t.self.hw = s.self.hw ∧ t.self.xapicId = s.self.hw.x2apicIdHw.setWidth 8
    ∧ t.self.irr = 0#256 ∧ t.self.isr = 0#256 ∧ t.self.tmr = 0#256
    ∧ TimerInv t.self ∧ (lvtHeld .cmci s.self.lvtCmci → ReservedInv t.self)
    ∧ (s.self.hw.hasLvtCmci = false → t.self.lvtCmci = s.self.lvtCmci)
    ∧ t.self.core = { s.self.core with answer := .done } ∧ t.self.out = s.self.out
    ∧ t.others = s.others ∧ t.inflight = s.inflight ∧ t.schedule = s.schedule

/-! ### Identity -/

/-- The logical x2APIC ID: bits 31:16 are ID[19:4], and of bits 15:0 exactly the one that ID[3:0] numbers is set
(42_registers_id_to_esr.md R231, with the truncation of the spec's decision D28); in x2APIC mode RDMSR of LDR answers
it (R230), where the LDR holds what the invariant says. -/
def Obligations.LogicalIdOfAUnit : Prop :=
  (∀ id : W32, (logicalX2apicId id) >>> 16 = (id >>> 4) &&& 0x0000FFFF#32
    ∧ ∀ j, j < 16 → ((logicalX2apicId id).getLsbD j = true ↔ j = id.toNat % 16))
  ∧ ∀ s : State, hears s → IdInv s.self →
    exec .rdmsrLdr s = .next (withAnswer (.value ((logicalX2apicId s.self.x2apicId).setWidth 64)) s)

/-- CPUID in any mode and at any privilege level: leaf 01H reports the initial APIC ID in EBX[31:24] and x2APIC support
in ECX[21], its other bits being free (notes/assumptions/26.md); leaf 0BH reports the level of its sub-leaf, zeros
where there is none, the sub-leaf's low byte and the x2APIC ID (40_enable_and_mode.md R140; 44_cpuid.md R321, R322).
Where the spec marks a rule used here as general knowledge or its own decision: notes/assumptions/6.md. -/
def Obligations.CpuidReportsTheIdentity : Prop :=
  ∀ (s : State) (n : W32),
    (∃ a b c d : W32, b >>> 24 = (s.self.hw.x2apicIdHw &&& 0x000000FF#32)
      ∧ c.getLsbD 21 = s.self.hw.x2apicSupported
      ∧ exec (.cpuid01h n) s = .next (withAnswer (.cpuid a b c d) (drawing 4 s)))
    ∧ (∀ l, s.self.hw.cpuid0B.find? (fun l => l.number == n) = some l →
      exec (.cpuid0bh n) s = .next (withAnswer (.cpuid (l.shift.setWidth 32) (l.count.setWidth 32)
        ((l.kind.setWidth 32 <<< 8) ||| (n &&& 0x000000FF#32)) s.self.x2apicId) s))
    ∧ ((∀ l ∈ s.self.hw.cpuid0B, l.number ≠ n) →
      exec (.cpuid0bh n) s = .next (withAnswer (.cpuid 0#32 0#32 (n &&& 0x000000FF#32) s.self.x2apicId) s))

/-- For every sub-leaf and in every mode CPUID.0BH:EDX is the hardware's x2APIC ID, hence in x2APIC mode RDMSR of ID
answers the same number (44_cpuid.md R323), for every unit whose parameters obey the spec's constraints. -/
def Obligations.CpuidAgreesWithTheIdRegister : Prop :=
  ∀ (s : State) (n : W32), s.self.hw.wf = true →
    (∃ a b c, exec (.cpuid0bh n) s = .next (withAnswer (.cpuid a b c s.self.hw.x2apicIdHw) s))
    ∧ (hears s → exec .rdmsrId s = .next (withAnswer (.value (s.self.hw.x2apicIdHw.setWidth 64)) s))

/-! ### The MMIO interface -/

/-- In xAPIC mode a LOAD of a readable register answers it, and a LOAD of the ICR's low half its stored bits with the
delivery status in bit 12, which is 1 while a message this unit sent is in flight (41_msr_access.md R190; 10_state.md
R73). Nothing changes. Where the spec marks a rule used here as general knowledge or its own decision:
notes/assumptions/6.md. -/
def Obligations.LoadAnswersTheRegister : Prop :=
  ∀ (s : State) (page : PageNo) (k : BitVec 3), atPage page s →
    (∀ r ∈ plainLoads page k s.self, exec r.1 s = .next (withAnswer (.data r.2) s))
    ∧ ∃ w : W32, exec (.loadIcrLo page) s = .next (withAnswer (.data w) s)
      ∧ w &&& 0xFFFFEFFF#32 = s.self.icr.setWidth 32 &&& 0xFFFFEFFF#32
      ∧ (w.getLsbD 12 = true ↔ ∃ m ∈ s.inflight, m.src = s.self.x2apicId ∧ m.origin = .sent)

/-- In xAPIC mode a STORE to a writable register, and to the ICR's high half, writes the bits that exist; the written
reserved bits are discarded (41_msr_access.md R191, R192). Nothing else changes, but that a STORE of TPR marks the
boundary of its promise, the model's own mark (42_registers_id_to_esr.md R211; notes/assumptions/27.md). STORE of ID is
read from the spec by inference (notes/assumptions/17.md). It is the model's choice that an SVR write changes no other
register (notes/assumptions/41.md), and that a STORE of TIMER_ICR or TIMER_DCR leaves the fraction of a divided tick as
it is (notes/assumptions/29.md). Where the spec marks a rule used here as general knowledge or its own decision:
notes/assumptions/6.md. -/
def Obligations.StoreWritesTheRegister : Prop :=
  ∀ (s : State) (page : PageNo) (val : W32), atPage page s →
    ∀ r ∈ plainStores page val s.self, exec r.1 s = .next (finished (withSelf r.2 s))

/-- In xAPIC mode APR and RRR answer a free value (10_state.md R55); a LOAD of EOI or of a reserved offset answers one
too and is logged as Illegal Register Address, bit 7; a STORE to a read-only register or a reserved offset is logged
and writes nothing (41_msr_access.md R175, R190, R191). That the offsets 0400H to 0FF0H are reserved ones is the
model's reading of 30_encoding.md R117 (notes/assumptions/21.md). Where the spec marks a rule used here as general
knowledge or its own decision: notes/assumptions/6.md. -/
def Obligations.OpenAndIllegalMmioAccesses : Prop :=
  ∀ (s : State) (page : PageNo) (k : BitVec 3) (slot : Byte) (val : W32), atPage page s →
    (∃ v, exec (.loadApr page) s = .next (withAnswer (.data v) (drawing 1 s)))
    ∧ (∃ v, exec (.loadRrr page) s = .next (withAnswer (.data v) (drawing 1 s)))
    ∧ (∃ t v, logsError 7 s t ∧ exec (.loadEoi page) s = .next (withAnswer (.data v) (drawing 1 t)))
    ∧ (∀ i ∈ illegalStores page k val, ∃ t, logsError 7 s t ∧ exec i s = .next (finished t))
    ∧ (isReservedSlot slot = true → slot ≠ 0x2F#8 ∨ s.self.hw.hasLvtCmci = false →
      (∃ t v, logsError 7 s t ∧ exec (.loadReserved page slot) s = .next (withAnswer (.data v) (drawing 1 t)))
      ∧ ∃ t, logsError 7 s t ∧ exec (.storeReserved page slot val) s = .next (finished t))

/-- A STORE to the ICR's low half stores the command and sends it to the 8-bit destination of the current high half
(41_msr_access.md R192). A fixed send of a vector below 16 is logged and leaves or not (R266); a lowest-priority one is
sent or is logged (notes/assumptions/20.md). Where the spec marks a rule used here as general knowledge or its own
decision: notes/assumptions/6.md. -/
def Obligations.StoreToIcrLowSends : Prop :=
  ∀ (s : State) (page : PageNo) (val : W32), atPage page s →
    let low := val &&& ~~~s.self.hw.rsvd.icr
    let c := commandFields ((s.self.icr >>> 56).setWidth 32) low
    let stored := withSelf { s.self with icr := (s.self.icr >>> 32).setWidth 32 ++ low } s
    (sendable c → exec (.storeIcrLo page val) s = .next (finished (sending c stored)))
    ∧ (c.del = 1#3 →
      exec (.storeIcrLo page val) s = .next (finished (sending c (drawing 1 stored)))
      ∨ ∃ t, logsError 4 (drawing 1 stored) t ∧ exec (.storeIcrLo page val) s = .next (finished t))
    ∧ (c.del = 0#3 → c.vec.toNat < 16 → ∃ t, logsError 5 stored t ∧
      (exec (.storeIcrLo page val) s = .next (finished (drawing 1 t))
        ∨ exec (.storeIcrLo page val) s = .next (finished (sending c (drawing 1 t)))))

/-- Outside xAPIC mode every LOAD and STORE is refused by name (41_msr_access.md R193: "the model refuses the
operation"), and so is one of a page that is not the unit's, which R113 of 30_encoding.md does not select: the model's
own refusal (notes/assumptions/35.md). -/
def Obligations.MmioIsRefusedOutsideXapicMode : Prop :=
  ∀ (s : State) (i : Instr) (pa : W64),
    encode i = .mmioR pa 4 ∨ (∃ val, encode i = .mmioW pa 4 val) →
    (s.self.mode ≠ .xapic → exec i s = .refused .mmioOutsideXapicMode)
    ∧ (s.self.mode = .xapic → (pa >>> 12).setWidth 52 ≠ s.self.base.page → exec i s = .refused .notTheApicPage)

/-! ### The core instructions by their bytes -/

/-- The three core instructions take their operands from the core's registers and do what the row does that those
select (30_encoding.md R111, R112, R114, R115): RDMSR at CPL 0 with ECX in the map leaves the data word in EDX:EAX,
WRMSR writes EDX:EAX, CPUID leaves its four results. An RDMSR that answers an exception leaves the registers. With an
MSR or a leaf outside the map nothing of the unit changes: the MSR access raises GP(0) or completes, and free values go
to the registers (notes/assumptions/40.md, DESIGN CHOICE). Where the spec marks a rule used here as general knowledge
or its own decision: notes/assumptions/6.md. -/
def Obligations.CoreInstructionsDoWhatTheirRowsDo : Prop :=
  ∀ s : State,
    (s.self.core.cpl = 0#2 → s.self.core.ecx = 0x1B#32 ∨ inMsrRange s.self.core.ecx →
      ∃ i t, decode (.msrR s.self.core.ecx) = .ok i ∧ exec i s = .next t
        ∧ (∀ val, t.self.core.answer = .value val →
          exec .x86Rdmsr s = .next (withSelf
            { t.self with core := { t.self.core with eax := val.setWidth 32, edx := (val >>> 32).setWidth 32 } } t))
        ∧ ((∀ val, t.self.core.answer ≠ .value val) → exec .x86Rdmsr s = .next t))
    ∧ (s.self.core.cpl = 0#2 → inMsrRange s.self.core.ecx → s.self.core.ecx ≠ 0x830#32 →
      ∃ i t, decode (.msrW s.self.core.ecx (s.self.core.edx ++ s.self.core.eax)) = .ok i ∧ exec i s = .next t
        ∧ exec .x86Wrmsr s = .next t)
    ∧ (s.self.core.cpl = 0#2 → ∀ i, decode (.msrW s.self.core.ecx (s.self.core.edx ++ s.self.core.eax)) = .ok i →
      exec .x86Wrmsr s = exec i s)
    ∧ (s.self.core.eax = 0x01#32 ∨ s.self.core.eax = 0x0B#32 →
      ∃ i t a b c d, decode (.cpuid s.self.core.eax s.self.core.ecx) = .ok i ∧ exec i s = .next t
        ∧ t.self.core.answer = .cpuid a b c d
        ∧ exec .x86Cpuid s = .next (withSelf
          { t.self with core := { t.self.core with eax := a, ebx := b, ecx := c, edx := d } } t))
    ∧ (s.self.core.cpl = 0#2 → s.self.core.ecx ≠ 0x1B#32 → ¬ inMsrRange s.self.core.ecx →
      (exec .x86Rdmsr s = .next (gp s)
        ∨ ∃ val : W64, exec .x86Rdmsr s = .next (drawing 1 (withSelf
          { s.self with
            core := { s.self.core with
              eax := val.setWidth 32, edx := (val >>> 32).setWidth 32, answer := .value val } } s)))
      ∧ (exec .x86Wrmsr s = .next (gp s) ∨ exec .x86Wrmsr s = .next (finished s)))
    ∧ (s.self.core.eax ≠ 0x01#32 → s.self.core.eax ≠ 0x0B#32 →
      ∃ a b c d, exec .x86Cpuid s = .next (drawing 4 (withSelf
        { s.self with
          core := { s.self.core with eax := a, ebx := b, ecx := c, edx := d, answer := .cpuid a b c d } } s)))

/-! ### The agents -/

/-- The delivery agent (60_exceptions.md R349, R352, R358, R372): the chosen message leaves the flight and, of any
delivery mode but INIT, reaches the unit it names, the acting one or another. No other unit is touched, and a message
that names none changes nothing else (notes/assumptions/30.md). A device's message reaches the acting unit in the same
way (R347; notes/assumptions/39.md). Where the spec marks a rule used here as general knowledge or its own decision:
notes/assumptions/6.md. -/
def Obligations.DeliveryReachesItsTarget : Prop :=
  (∀ (s : State) (rest : List Event) (k : Nat) (m : Msg),
    s.schedule = .deliver k :: rest → s.inflight[k]? = some m →
    let after : State := { s with schedule := rest, inflight := s.inflight.eraseIdx k }
    (m.dst = s.self.x2apicId → m.del ≠ 5#3 →
      ∃ t, reached m.origin m.del m.vec m.trig after t ∧ step s = .next t)
    ∧ (∀ j w, m.dst ≠ s.self.x2apicId → m.del ≠ 5#3 → s.others[j]? = some w → w.x2apicId = m.dst →
      (∀ j' < j, ∀ w', s.others[j']? = some w' → w'.x2apicId ≠ m.dst) →
      ∃ t, reached m.origin m.del m.vec m.trig { after with self := w, others := s.others.set j s.self } t
        ∧ step s = .next { t with self := s.self, others := s.others.set j t.self })
    ∧ (m.dst ≠ s.self.x2apicId → (∀ w ∈ s.others, w.x2apicId ≠ m.dst) → step s = .next after))
  ∧ ∀ (s : State) (rest : List Event) (del : BitVec 3) (vec : Byte) (level : Bool),
    s.schedule = .deviceMessage del vec level :: rest → del ≠ 5#3 →
    ∃ t, reached .sent del vec level { s with schedule := rest } t ∧ step s = .next t

/-- A fixed message of a vector below 16 is not accepted by the unit it reaches, the acting one or another: it is
logged there as Received Illegal Vector, bit 6, and with the default logic the vector's IRR bit is as before
(60_exceptions.md R349, R354). Where the spec marks a rule used here as general knowledge or its own decision:
notes/assumptions/6.md. -/
def Obligations.IllegalVectorReceivedIsLogged : Prop :=
  ∀ (s : State) (rest : List Event) (k : Nat) (m : Msg),
    s.schedule = .deliver k :: rest → s.inflight[k]? = some m → m.del = 0#3 → m.vec.toNat < 16 →
    let after : State := { s with schedule := rest, inflight := s.inflight.eraseIdx k }
    (m.dst = s.self.x2apicId → ∃ t, logsError 6 after t ∧ step s = .next t
      ∧ (standard s.self → t.self.irr &&& bitOf m.vec = s.self.irr &&& bitOf m.vec))
    ∧ ∀ j w, m.dst ≠ s.self.x2apicId → s.others[j]? = some w → w.x2apicId = m.dst →
      (∀ j' < j, ∀ w', s.others[j']? = some w' → w'.x2apicId ≠ m.dst) →
      ∃ t, logsError 6 { after with self := w, others := s.others.set j s.self } t
        ∧ step s = .next { t with self := s.self, others := s.others.set j t.self }
        ∧ (standard w → t.self.irr &&& bitOf m.vec = w.irr &&& bitOf m.vec)

/-- A tick of a running timer (60_exceptions.md R365): the count falls by 1; where it reaches 0 the timer entry fires
(masked: nothing; otherwise its vector arrives, edge-triggered) and then the count is reloaded from TIMER_ICR
(periodic) or the timer stops (one-shot). A timer that is not running does not move. The fraction of a divided tick
stays as it is (notes/assumptions/29.md). Where the spec marks a rule used here as general knowledge or its own
decision: notes/assumptions/6.md. -/
def Obligations.TimerTick : Prop :=
  ∀ (s : State) (rest : List Event), s.schedule = .tick :: rest →
    let u := s.self
    let after : State := { s with schedule := rest }
    let expired (w : Apic) : Apic :=
      if u.lvtTimer.reg.getLsbD 17 then { w with count := u.timerIcr } else { w with count := 0#32, running := false }
    (u.running = false → step s = .next after)
    ∧ (u.running = true → 1 < u.count.toNat → step s = .next (withSelf { u with count := u.count - 1#32 } after))
    ∧ (u.running = true → u.count = 1#32 → u.lvtTimer.reg.getLsbD 16 = true →
      step s = .next (withSelf (expired u) after))
    ∧ (u.running = true → u.count = 1#32 → u.lvtTimer.reg.getLsbD 16 = false →
      ∃ t, arrives (.source .timer) (u.lvtTimer.reg.setWidth 8) false (withSelf { u with count := 0#32 } after) t
        ∧ step s = .next (withSelf (expired t.self) t))

/-- An input clock of the timer (60_exceptions.md R365; 10_state.md R52, R74): a running timer ticks at the clock that
completes the divide value of TIMER_DCR, and at every other one the fraction counts it; a timer that is not running
does not move. How the fraction moves is the model's choice (notes/assumptions/29.md). Where the spec marks a rule used
here as general knowledge or its own decision: notes/assumptions/6.md. -/
def Obligations.TimerClockDivides : Prop :=
  ∀ (s : State) (rest : List Event), s.schedule = .clock :: rest →
    (s.self.running = false → step s = .next { s with schedule := rest })
    ∧ (s.self.running = true → s.self.frac + 1 < clocksPerTick s.self.timerDcr →
      step s = .next (withSelf { s.self with frac := s.self.frac + 1 } { s with schedule := rest }))
    ∧ (s.self.running = true → clocksPerTick s.self.timerDcr ≤ s.self.frac + 1 →
      step s = step (withSelf { s.self with frac := 0 } { s with schedule := .tick :: rest }))

/-- A local interrupt source fires (60_exceptions.md R347, R360): masked, nothing; in fixed mode its vector arrives, by
the trigger of bit 15 for LINT0 and LINT1 and edge-triggered otherwise; with another delivery mode, INIT among them, it
is handed to the core as that event and touches nothing else of the unit (R358; notes/assumptions/24.md for the
reserved modes). The source of LVT_CMCI is there with LVT_CMCI alone (10_state.md R42; notes/assumptions/23.md, 33.md).
Where the spec marks a rule used here as general knowledge or its own decision: notes/assumptions/6.md. -/
def Obligations.LocalSourceFires : Prop :=
  ∀ (s : State) (rest : List Event) (x : LocalSource), s.schedule = .source x :: rest →
    let u := s.self
    let reg := (u.lvt x.entry).reg
    let vec : Byte := reg.setWidth 8
    let level : Bool := (x == .lint0 || x == .lint1) && reg.getLsbD 15
    let after : State := { s with schedule := rest }
    (x = .cmci → u.hw.hasLvtCmci = false → step s = .fault .noSuchSource)
    ∧ (x ≠ .cmci ∨ u.hw.hasLvtCmci = true →
      (reg.getLsbD 16 = true → step s = .next after)
      ∧ (reg.getLsbD 16 = false → reg.extractLsb' 8 3 = 0#3 →
        ∃ t, arrives (.source x.entry) vec level after t ∧ step s = .next t)
      ∧ (reg.getLsbD 16 = false → reg.extractLsb' 8 3 ≠ 0#3 →
        step s = .next (withSelf (handed (reg.extractLsb' 8 3) vec u) after)))

/-- RESET of a unit, from every state (70_reset_and_hazards.md R400; 10_state.md R60): xAPIC mode at FEE0_0000H, every
register at its reset value, the errors free, the timer stopped, every message to or from the unit gone; the other
units are untouched (notes/assumptions/9.md, 32.md); that the core's port is reset too is the model's choice
(notes/assumptions/8.md, 32.md). The reset values of LVT_CMCI and of the fraction of a divided tick
are the model's (notes/assumptions/23.md, 29.md). Where the spec marks a rule used here as general knowledge or its
own decision: notes/assumptions/6.md. -/
def Obligations.ResetOfAUnit : Prop :=
  ∀ (s : State) (rest : List Event), s.schedule = .resetUnit :: rest → ∃ esr pending : W64,
    step s = .next
      { self := { apicAtReset s.self.hw esr pending with out := s.self.out }
        others := s.others
        inflight := s.inflight.filter fun m => m.src != s.self.x2apicId && m.dst != s.self.x2apicId
        draws := s.draws + 2
        schedule := rest }
    ∧ let u := apicAtReset s.self.hw esr pending
      u.base = { page := 0xFEE00#52, en := true, extd := false, bsp := s.self.hw.isBsp }
      ∧ u.hw = s.self.hw ∧ u.xapicId = s.self.hw.x2apicIdHw.setWidth 8
      ∧ u.tpr = 0#8 ∧ u.ldr = 0#32 ∧ u.dfr = 0xFFFFFFFF#32 ∧ u.svr = 0xFF#32
      ∧ u.isr = 0#256 ∧ u.tmr = 0#256 ∧ u.irr = 0#256 ∧ u.icr = 0#64
      ∧ u.timerIcr = 0#32 ∧ u.count = 0#32 ∧ u.timerDcr = 0#32 ∧ u.running = false ∧ u.frac = 0
      ∧ ∀ x, u.lvt x = { reg := 0x00010000#32, raised := 0#256 }

/-- INIT of a unit (70_reset_and_hazards.md R403; 60_exceptions.md R358), by the platform, by an INIT message that
reaches the acting unit or another one, and by a device's INIT message: outside Disabled the mode MSR and the IDs are
kept, the LDR is the logical x2APIC ID in x2APIC mode and 0 in xAPIC mode, every other register is at its value after
INIT, the errors free, the timer stopped; in Disabled nothing of the unit changes. Each message to the unit is kept or
dropped, the others are kept (notes/assumptions/37.md). A message also hands its event to the core, whatever its level
bit (notes/assumptions/38.md). The values of LVT_CMCI and of the fraction of a divided tick are the model's
(notes/assumptions/23.md, 29.md), and so is that the core's port drops a sampled offer and the boundary mark and keeps
the rest (notes/assumptions/8.md). Where the spec marks a rule used here as general knowledge or its own decision:
notes/assumptions/6.md. -/
def Obligations.InitOfAUnit : Prop :=
  (∀ (s : State) (rest : List Event), s.schedule = .initUnit :: rest →
    ∃ t, inits { s with schedule := rest } t ∧ step s = .next t)
  ∧ (∀ (s : State) (rest : List Event) (k : Nat) (m : Msg),
    s.schedule = .deliver k :: rest → s.inflight[k]? = some m → m.del = 5#3 →
    let after : State := { s with schedule := rest, inflight := s.inflight.eraseIdx k }
    (m.dst = s.self.x2apicId → ∃ t, inits (withSelf (handed 5#3 m.vec s.self) after) t ∧ step s = .next t)
    ∧ ∀ j w, m.dst ≠ s.self.x2apicId → s.others[j]? = some w → w.x2apicId = m.dst →
      (∀ j' < j, ∀ w', s.others[j']? = some w' → w'.x2apicId ≠ m.dst) →
      ∃ t, inits { after with self := handed 5#3 m.vec w, others := s.others.set j s.self } t
        ∧ step s = .next { t with self := s.self, others := s.others.set j t.self })
  ∧ ∀ (s : State) (rest : List Event) (vec : Byte) (level : Bool), s.schedule = .deviceMessage 5#3 vec level :: rest →
    ∃ t, inits (withSelf (handed 5#3 vec s.self) { s with schedule := rest }) t ∧ step s = .next t
end

