-- ==== Sys2Proof/Laws/Decode.lean ====
section
/-! SUPPORT. The bit fields of an access's address, and what the decoder answers for an address assembled from them. -/

namespace Sys2Proof

/-! ### Fields of an assembled address -/

theorem msr_select_append (off : BitVec 10) : (2#22 ++ off).extractLsb' 10 22 = 2#22 := by
  apply BitVec.eq_of_getLsbD_eq
  intro i hi
  rw [BitVec.getLsbD_extractLsb', BitVec.getLsbD_append]
  simp [hi]

theorem msr_offset_append (off : BitVec 10) : (2#22 ++ off).extractLsb' 0 10 = off := by
  apply BitVec.eq_of_getLsbD_eq
  intro i hi
  rw [BitVec.getLsbD_extractLsb', BitVec.getLsbD_append]
  simp [hi]

theorem mmio_page_append (page : PageNo) (slot : Byte) : (page ++ (slot ++ 0#4)).extractLsb' 12 52 = page := by
  apply BitVec.eq_of_getLsbD_eq
  intro i hi
  rw [BitVec.getLsbD_extractLsb', BitVec.getLsbD_append]
  simp [hi]

theorem mmio_slot_append (page : PageNo) (slot : Byte) : (page ++ (slot ++ 0#4)).extractLsb' 4 8 = slot := by
  apply BitVec.eq_of_getLsbD_eq
  intro i hi
  rw [BitVec.getLsbD_extractLsb', BitVec.getLsbD_append, BitVec.getLsbD_append]
  have : 4 + i < 12 := by omega
  simp [hi, this]

theorem mmio_low_append (page : PageNo) (slot : Byte) : (page ++ (slot ++ 0#4)).extractLsb' 0 4 = 0#4 := by
  apply BitVec.eq_of_getLsbD_eq
  intro i hi
  rw [BitVec.getLsbD_extractLsb', BitVec.getLsbD_append, BitVec.getLsbD_append]
  have : i < 12 := by omega
  simp [hi, this]

/-- An address of the unit is its select field followed by its MSR offset. -/
theorem msr_addr_split {addr : W32} (h : addr.extractLsb' 10 22 = 2#22) : addr = 2#22 ++ addr.extractLsb' 0 10 := by
  apply BitVec.eq_of_getLsbD_eq
  intro i hi
  rw [BitVec.getLsbD_append]
  by_cases hi' : i < 10
  · simp [hi']
  · have hb := congrArg (fun v => v.getLsbD (i - 10)) h
    have h22 : i - 10 < 22 := by omega
    have h10 : 10 + (i - 10) = i := by omega
    simp only [BitVec.getLsbD_extractLsb', h22, h10, decide_true, Bool.true_and] at hb
    simp [hi', hb]

/-- The addresses 800H to BFFH are the ones whose select field is the unit's. -/
theorem selects_of_range {addr : W32} (h1 : 0x800 ≤ addr.toNat) (h2 : addr.toNat ≤ 0xBFF) :
    addr.extractLsb' 10 22 = 2#22 := by
  apply BitVec.eq_of_toNat_eq
  simp only [BitVec.extractLsb'_toNat, Nat.shiftRight_eq_div_pow, BitVec.toNat_ofNat]
  omega

/-- A physical address at the start of a 16-byte slot is its page followed by its slot. -/
theorem mmio_addr_split {pa : W64} (h : pa.extractLsb' 0 4 = 0#4) :
    pa = pa.extractLsb' 12 52 ++ (pa.extractLsb' 4 8 ++ 0#4) := by
  apply BitVec.eq_of_getLsbD_eq
  intro i hi
  rw [BitVec.getLsbD_append, BitVec.getLsbD_append]
  by_cases h4 : i < 4
  · have hb := congrArg (fun v => v.getLsbD i) h
    simp only [BitVec.getLsbD_extractLsb', h4, decide_true, Bool.true_and, Nat.zero_add] at hb
    have : i < 12 := by omega
    simp [this, h4, hb]
  · by_cases h12 : i < 12
    · have h48 : i - 4 < 8 := by omega
      have he : 4 + (i - 4) = i := by omega
      simp [h12, h4, h48, he]
    · have h52 : i - 12 < 52 := by omega
      have he : 12 + (i - 12) = i := by omega
      simp [h12, h52, he]

/-! ### What the decoder answers -/

theorem ne_base_of_select (off : BitVec 10) : (2#22 ++ off : W32) ≠ 0x1B#32 := by
  intro h
  have := congrArg (fun a : W32 => a.extractLsb' 10 22) h
  rw [msr_select_append] at this
  exact absurd this (by decide)

/-- An RDMSR of the unit is its offset's row. -/
theorem decode_rdmsrOf (off : BitVec 10) : decode (rdmsrOf off) = .ok (rdmsrAt off) := by
  simp only [decode, rdmsrOf, decodeRdmsr, if_neg (ne_base_of_select off), selectsUnit, msr_select_append,
    msr_offset_append, beq_self_eq_true, if_true]

/-- A WRMSR of the unit is its offset's row. -/
theorem decode_wrmsrOf (off : BitVec 10) (val : W64) : decode (wrmsrOf off val) = .ok (wrmsrAt off val) := by
  simp only [decode, wrmsrOf, decodeWrmsr, if_neg (ne_base_of_select off), selectsUnit, msr_select_append,
    msr_offset_append, beq_self_eq_true, if_true]

/-- A LOAD is its slot's row. -/
theorem decode_loadOf (page : PageNo) (slot : Byte) : decode (loadOf page slot) = .ok (loadAt page slot) := by
  simp only [decode, loadOf, decodeLoad, mmio_low_append, mmio_page_append, mmio_slot_append, ne_eq, not_true, if_false]

/-- A STORE is its slot's row. -/
theorem decode_storeOf (page : PageNo) (slot : Byte) (val : W32) :
    decode (storeOf page slot val) = .ok (storeAt page slot val) := by
  simp only [decode, storeOf, decodeStore, mmio_low_append, mmio_page_append, mmio_slot_append, ne_eq, not_true,
    if_false]

end Sys2Proof
end

