-- ==== Sys2Proof/Laws/State.lean ====
section
/-! SUPPORT. One lemma per field per update of the state: what each update of Machine/Ops.lean leaves in each field.
Each is true by unfolding. -/

namespace Sys2Proof.Machine

/-! ### `mapSelf` -/

@[simp] theorem State.mapSelf_self (f : Apic → Apic) (s : State) :
    (s.mapSelf f).self = f s.self := rfl

@[simp] theorem State.mapSelf_others (f : Apic → Apic) (s : State) :
    (s.mapSelf f).others = s.others := rfl

@[simp] theorem State.mapSelf_inflight (f : Apic → Apic) (s : State) :
    (s.mapSelf f).inflight = s.inflight := rfl

@[simp] theorem State.mapSelf_draws (f : Apic → Apic) (s : State) :
    (s.mapSelf f).draws = s.draws := rfl

@[simp] theorem State.mapSelf_schedule (f : Apic → Apic) (s : State) :
    (s.mapSelf f).schedule = s.schedule := rfl

/-! ### `mapCore` -/

@[simp] theorem State.mapCore_core (f : Core → Core) (s : State) :
    (s.mapCore f).self.core = f s.self.core := rfl

@[simp] theorem State.mapCore_hw (f : Core → Core) (s : State) :
    (s.mapCore f).self.hw = s.self.hw := rfl

@[simp] theorem State.mapCore_base (f : Core → Core) (s : State) :
    (s.mapCore f).self.base = s.self.base := rfl

@[simp] theorem State.mapCore_xapicId (f : Core → Core) (s : State) :
    (s.mapCore f).self.xapicId = s.self.xapicId := rfl

@[simp] theorem State.mapCore_tpr (f : Core → Core) (s : State) :
    (s.mapCore f).self.tpr = s.self.tpr := rfl

@[simp] theorem State.mapCore_ldr (f : Core → Core) (s : State) :
    (s.mapCore f).self.ldr = s.self.ldr := rfl

@[simp] theorem State.mapCore_dfr (f : Core → Core) (s : State) :
    (s.mapCore f).self.dfr = s.self.dfr := rfl

@[simp] theorem State.mapCore_svr (f : Core → Core) (s : State) :
    (s.mapCore f).self.svr = s.self.svr := rfl

@[simp] theorem State.mapCore_isr (f : Core → Core) (s : State) :
    (s.mapCore f).self.isr = s.self.isr := rfl

@[simp] theorem State.mapCore_tmr (f : Core → Core) (s : State) :
    (s.mapCore f).self.tmr = s.self.tmr := rfl

@[simp] theorem State.mapCore_irr (f : Core → Core) (s : State) :
    (s.mapCore f).self.irr = s.self.irr := rfl

@[simp] theorem State.mapCore_esr (f : Core → Core) (s : State) :
    (s.mapCore f).self.esr = s.self.esr := rfl

@[simp] theorem State.mapCore_esrPending (f : Core → Core) (s : State) :
    (s.mapCore f).self.esrPending = s.self.esrPending := rfl

@[simp] theorem State.mapCore_icr (f : Core → Core) (s : State) :
    (s.mapCore f).self.icr = s.self.icr := rfl

@[simp] theorem State.mapCore_lvtTimer (f : Core → Core) (s : State) :
    (s.mapCore f).self.lvtTimer = s.self.lvtTimer := rfl

@[simp] theorem State.mapCore_lvtThermal (f : Core → Core) (s : State) :
    (s.mapCore f).self.lvtThermal = s.self.lvtThermal := rfl

@[simp] theorem State.mapCore_lvtPmr (f : Core → Core) (s : State) :
    (s.mapCore f).self.lvtPmr = s.self.lvtPmr := rfl

@[simp] theorem State.mapCore_lvtLint0 (f : Core → Core) (s : State) :
    (s.mapCore f).self.lvtLint0 = s.self.lvtLint0 := rfl

@[simp] theorem State.mapCore_lvtLint1 (f : Core → Core) (s : State) :
    (s.mapCore f).self.lvtLint1 = s.self.lvtLint1 := rfl

@[simp] theorem State.mapCore_lvtError (f : Core → Core) (s : State) :
    (s.mapCore f).self.lvtError = s.self.lvtError := rfl

@[simp] theorem State.mapCore_lvtCmci (f : Core → Core) (s : State) :
    (s.mapCore f).self.lvtCmci = s.self.lvtCmci := rfl

@[simp] theorem State.mapCore_timerIcr (f : Core → Core) (s : State) :
    (s.mapCore f).self.timerIcr = s.self.timerIcr := rfl

@[simp] theorem State.mapCore_timerDcr (f : Core → Core) (s : State) :
    (s.mapCore f).self.timerDcr = s.self.timerDcr := rfl

@[simp] theorem State.mapCore_count (f : Core → Core) (s : State) :
    (s.mapCore f).self.count = s.self.count := rfl

@[simp] theorem State.mapCore_running (f : Core → Core) (s : State) :
    (s.mapCore f).self.running = s.self.running := rfl

@[simp] theorem State.mapCore_frac (f : Core → Core) (s : State) :
    (s.mapCore f).self.frac = s.self.frac := rfl

@[simp] theorem State.mapCore_out (f : Core → Core) (s : State) :
    (s.mapCore f).self.out = s.self.out := rfl

@[simp] theorem State.mapCore_others (f : Core → Core) (s : State) :
    (s.mapCore f).others = s.others := rfl

@[simp] theorem State.mapCore_inflight (f : Core → Core) (s : State) :
    (s.mapCore f).inflight = s.inflight := rfl

@[simp] theorem State.mapCore_draws (f : Core → Core) (s : State) :
    (s.mapCore f).draws = s.draws := rfl

@[simp] theorem State.mapCore_schedule (f : Core → Core) (s : State) :
    (s.mapCore f).schedule = s.schedule := rfl

/-! ### `answered` -/

@[simp] theorem State.answered_eax (a : Answer) (s : State) :
    (s.answered a).self.core.eax = s.self.core.eax := rfl

@[simp] theorem State.answered_ebx (a : Answer) (s : State) :
    (s.answered a).self.core.ebx = s.self.core.ebx := rfl

@[simp] theorem State.answered_ecx (a : Answer) (s : State) :
    (s.answered a).self.core.ecx = s.self.core.ecx := rfl

@[simp] theorem State.answered_edx (a : Answer) (s : State) :
    (s.answered a).self.core.edx = s.self.core.edx := rfl

@[simp] theorem State.answered_cpl (a : Answer) (s : State) :
    (s.answered a).self.core.cpl = s.self.core.cpl := rfl

@[simp] theorem State.answered_intEnabled (a : Answer) (s : State) :
    (s.answered a).self.core.intEnabled = s.self.core.intEnabled := rfl

@[simp] theorem State.answered_sampled (a : Answer) (s : State) :
    (s.answered a).self.core.sampled = s.self.core.sampled := rfl

@[simp] theorem State.answered_tprBoundary (a : Answer) (s : State) :
    (s.answered a).self.core.tprBoundary = s.self.core.tprBoundary := rfl

@[simp] theorem State.answered_answer (a : Answer) (s : State) :
    (s.answered a).self.core.answer = a := rfl

@[simp] theorem State.answered_hw (a : Answer) (s : State) :
    (s.answered a).self.hw = s.self.hw := rfl

@[simp] theorem State.answered_base (a : Answer) (s : State) :
    (s.answered a).self.base = s.self.base := rfl

@[simp] theorem State.answered_xapicId (a : Answer) (s : State) :
    (s.answered a).self.xapicId = s.self.xapicId := rfl

@[simp] theorem State.answered_tpr (a : Answer) (s : State) :
    (s.answered a).self.tpr = s.self.tpr := rfl

@[simp] theorem State.answered_ldr (a : Answer) (s : State) :
    (s.answered a).self.ldr = s.self.ldr := rfl

@[simp] theorem State.answered_dfr (a : Answer) (s : State) :
    (s.answered a).self.dfr = s.self.dfr := rfl

@[simp] theorem State.answered_svr (a : Answer) (s : State) :
    (s.answered a).self.svr = s.self.svr := rfl

@[simp] theorem State.answered_isr (a : Answer) (s : State) :
    (s.answered a).self.isr = s.self.isr := rfl

@[simp] theorem State.answered_tmr (a : Answer) (s : State) :
    (s.answered a).self.tmr = s.self.tmr := rfl

@[simp] theorem State.answered_irr (a : Answer) (s : State) :
    (s.answered a).self.irr = s.self.irr := rfl

@[simp] theorem State.answered_esr (a : Answer) (s : State) :
    (s.answered a).self.esr = s.self.esr := rfl

@[simp] theorem State.answered_esrPending (a : Answer) (s : State) :
    (s.answered a).self.esrPending = s.self.esrPending := rfl

@[simp] theorem State.answered_icr (a : Answer) (s : State) :
    (s.answered a).self.icr = s.self.icr := rfl

@[simp] theorem State.answered_lvtTimer (a : Answer) (s : State) :
    (s.answered a).self.lvtTimer = s.self.lvtTimer := rfl

@[simp] theorem State.answered_lvtThermal (a : Answer) (s : State) :
    (s.answered a).self.lvtThermal = s.self.lvtThermal := rfl

@[simp] theorem State.answered_lvtPmr (a : Answer) (s : State) :
    (s.answered a).self.lvtPmr = s.self.lvtPmr := rfl

@[simp] theorem State.answered_lvtLint0 (a : Answer) (s : State) :
    (s.answered a).self.lvtLint0 = s.self.lvtLint0 := rfl

@[simp] theorem State.answered_lvtLint1 (a : Answer) (s : State) :
    (s.answered a).self.lvtLint1 = s.self.lvtLint1 := rfl

@[simp] theorem State.answered_lvtError (a : Answer) (s : State) :
    (s.answered a).self.lvtError = s.self.lvtError := rfl

@[simp] theorem State.answered_lvtCmci (a : Answer) (s : State) :
    (s.answered a).self.lvtCmci = s.self.lvtCmci := rfl

@[simp] theorem State.answered_timerIcr (a : Answer) (s : State) :
    (s.answered a).self.timerIcr = s.self.timerIcr := rfl

@[simp] theorem State.answered_timerDcr (a : Answer) (s : State) :
    (s.answered a).self.timerDcr = s.self.timerDcr := rfl

@[simp] theorem State.answered_count (a : Answer) (s : State) :
    (s.answered a).self.count = s.self.count := rfl

@[simp] theorem State.answered_running (a : Answer) (s : State) :
    (s.answered a).self.running = s.self.running := rfl

@[simp] theorem State.answered_frac (a : Answer) (s : State) :
    (s.answered a).self.frac = s.self.frac := rfl

@[simp] theorem State.answered_out (a : Answer) (s : State) :
    (s.answered a).self.out = s.self.out := rfl

@[simp] theorem State.answered_others (a : Answer) (s : State) :
    (s.answered a).others = s.others := rfl

@[simp] theorem State.answered_inflight (a : Answer) (s : State) :
    (s.answered a).inflight = s.inflight := rfl

@[simp] theorem State.answered_draws (a : Answer) (s : State) :
    (s.answered a).draws = s.draws := rfl

@[simp] theorem State.answered_schedule (a : Answer) (s : State) :
    (s.answered a).schedule = s.schedule := rfl

/-! ### `emit` -/

@[simp] theorem State.emit_hw (o : Output) (s : State) :
    (s.emit o).self.hw = s.self.hw := rfl

@[simp] theorem State.emit_base (o : Output) (s : State) :
    (s.emit o).self.base = s.self.base := rfl

@[simp] theorem State.emit_xapicId (o : Output) (s : State) :
    (s.emit o).self.xapicId = s.self.xapicId := rfl

@[simp] theorem State.emit_tpr (o : Output) (s : State) :
    (s.emit o).self.tpr = s.self.tpr := rfl

@[simp] theorem State.emit_ldr (o : Output) (s : State) :
    (s.emit o).self.ldr = s.self.ldr := rfl

@[simp] theorem State.emit_dfr (o : Output) (s : State) :
    (s.emit o).self.dfr = s.self.dfr := rfl

@[simp] theorem State.emit_svr (o : Output) (s : State) :
    (s.emit o).self.svr = s.self.svr := rfl

@[simp] theorem State.emit_isr (o : Output) (s : State) :
    (s.emit o).self.isr = s.self.isr := rfl

@[simp] theorem State.emit_tmr (o : Output) (s : State) :
    (s.emit o).self.tmr = s.self.tmr := rfl

@[simp] theorem State.emit_irr (o : Output) (s : State) :
    (s.emit o).self.irr = s.self.irr := rfl

@[simp] theorem State.emit_esr (o : Output) (s : State) :
    (s.emit o).self.esr = s.self.esr := rfl

@[simp] theorem State.emit_esrPending (o : Output) (s : State) :
    (s.emit o).self.esrPending = s.self.esrPending := rfl

@[simp] theorem State.emit_icr (o : Output) (s : State) :
    (s.emit o).self.icr = s.self.icr := rfl

@[simp] theorem State.emit_lvtTimer (o : Output) (s : State) :
    (s.emit o).self.lvtTimer = s.self.lvtTimer := rfl

@[simp] theorem State.emit_lvtThermal (o : Output) (s : State) :
    (s.emit o).self.lvtThermal = s.self.lvtThermal := rfl

@[simp] theorem State.emit_lvtPmr (o : Output) (s : State) :
    (s.emit o).self.lvtPmr = s.self.lvtPmr := rfl

@[simp] theorem State.emit_lvtLint0 (o : Output) (s : State) :
    (s.emit o).self.lvtLint0 = s.self.lvtLint0 := rfl

@[simp] theorem State.emit_lvtLint1 (o : Output) (s : State) :
    (s.emit o).self.lvtLint1 = s.self.lvtLint1 := rfl

@[simp] theorem State.emit_lvtError (o : Output) (s : State) :
    (s.emit o).self.lvtError = s.self.lvtError := rfl

@[simp] theorem State.emit_lvtCmci (o : Output) (s : State) :
    (s.emit o).self.lvtCmci = s.self.lvtCmci := rfl

@[simp] theorem State.emit_timerIcr (o : Output) (s : State) :
    (s.emit o).self.timerIcr = s.self.timerIcr := rfl

@[simp] theorem State.emit_timerDcr (o : Output) (s : State) :
    (s.emit o).self.timerDcr = s.self.timerDcr := rfl

@[simp] theorem State.emit_count (o : Output) (s : State) :
    (s.emit o).self.count = s.self.count := rfl

@[simp] theorem State.emit_running (o : Output) (s : State) :
    (s.emit o).self.running = s.self.running := rfl

@[simp] theorem State.emit_frac (o : Output) (s : State) :
    (s.emit o).self.frac = s.self.frac := rfl

@[simp] theorem State.emit_core (o : Output) (s : State) :
    (s.emit o).self.core = s.self.core := rfl

@[simp] theorem State.emit_out (o : Output) (s : State) :
    (s.emit o).self.out = s.self.out ++ [o] := rfl

@[simp] theorem State.emit_others (o : Output) (s : State) :
    (s.emit o).others = s.others := rfl

@[simp] theorem State.emit_inflight (o : Output) (s : State) :
    (s.emit o).inflight = s.inflight := rfl

@[simp] theorem State.emit_draws (o : Output) (s : State) :
    (s.emit o).draws = s.draws := rfl

@[simp] theorem State.emit_schedule (o : Output) (s : State) :
    (s.emit o).schedule = s.schedule := rfl

/-! ### `post` -/

@[simp] theorem State.post_self (m : Msg) (s : State) :
    (s.post m).self = s.self := rfl

@[simp] theorem State.post_others (m : Msg) (s : State) :
    (s.post m).others = s.others := rfl

@[simp] theorem State.post_inflight (m : Msg) (s : State) :
    (s.post m).inflight = s.inflight ++ [m] := rfl

@[simp] theorem State.post_draws (m : Msg) (s : State) :
    (s.post m).draws = s.draws := rfl

@[simp] theorem State.post_schedule (m : Msg) (s : State) :
    (s.post m).schedule = s.schedule := rfl

/-! ### `drew` -/

@[simp] theorem State.drew_self (n : Nat) (s : State) :
    (s.drew n).self = s.self := rfl

@[simp] theorem State.drew_others (n : Nat) (s : State) :
    (s.drew n).others = s.others := rfl

@[simp] theorem State.drew_inflight (n : Nat) (s : State) :
    (s.drew n).inflight = s.inflight := rfl

@[simp] theorem State.drew_draws (n : Nat) (s : State) :
    (s.drew n).draws = s.draws + n := rfl

@[simp] theorem State.drew_schedule (n : Nat) (s : State) :
    (s.drew n).schedule = s.schedule := rfl

/-! ### `withLvt` -/

@[simp] theorem Apic.withLvt_hw (u : Apic) (x : LvtId) (l : Lvt) :
    (u.withLvt x l).hw = u.hw := by cases x <;> rfl

@[simp] theorem Apic.withLvt_base (u : Apic) (x : LvtId) (l : Lvt) :
    (u.withLvt x l).base = u.base := by cases x <;> rfl

@[simp] theorem Apic.withLvt_xapicId (u : Apic) (x : LvtId) (l : Lvt) :
    (u.withLvt x l).xapicId = u.xapicId := by cases x <;> rfl

@[simp] theorem Apic.withLvt_tpr (u : Apic) (x : LvtId) (l : Lvt) :
    (u.withLvt x l).tpr = u.tpr := by cases x <;> rfl

@[simp] theorem Apic.withLvt_ldr (u : Apic) (x : LvtId) (l : Lvt) :
    (u.withLvt x l).ldr = u.ldr := by cases x <;> rfl

@[simp] theorem Apic.withLvt_dfr (u : Apic) (x : LvtId) (l : Lvt) :
    (u.withLvt x l).dfr = u.dfr := by cases x <;> rfl

@[simp] theorem Apic.withLvt_svr (u : Apic) (x : LvtId) (l : Lvt) :
    (u.withLvt x l).svr = u.svr := by cases x <;> rfl

@[simp] theorem Apic.withLvt_isr (u : Apic) (x : LvtId) (l : Lvt) :
    (u.withLvt x l).isr = u.isr := by cases x <;> rfl

@[simp] theorem Apic.withLvt_tmr (u : Apic) (x : LvtId) (l : Lvt) :
    (u.withLvt x l).tmr = u.tmr := by cases x <;> rfl

@[simp] theorem Apic.withLvt_irr (u : Apic) (x : LvtId) (l : Lvt) :
    (u.withLvt x l).irr = u.irr := by cases x <;> rfl

@[simp] theorem Apic.withLvt_esr (u : Apic) (x : LvtId) (l : Lvt) :
    (u.withLvt x l).esr = u.esr := by cases x <;> rfl

@[simp] theorem Apic.withLvt_esrPending (u : Apic) (x : LvtId) (l : Lvt) :
    (u.withLvt x l).esrPending = u.esrPending := by cases x <;> rfl

@[simp] theorem Apic.withLvt_icr (u : Apic) (x : LvtId) (l : Lvt) :
    (u.withLvt x l).icr = u.icr := by cases x <;> rfl

@[simp] theorem Apic.withLvt_timerIcr (u : Apic) (x : LvtId) (l : Lvt) :
    (u.withLvt x l).timerIcr = u.timerIcr := by cases x <;> rfl

@[simp] theorem Apic.withLvt_timerDcr (u : Apic) (x : LvtId) (l : Lvt) :
    (u.withLvt x l).timerDcr = u.timerDcr := by cases x <;> rfl

@[simp] theorem Apic.withLvt_count (u : Apic) (x : LvtId) (l : Lvt) :
    (u.withLvt x l).count = u.count := by cases x <;> rfl

@[simp] theorem Apic.withLvt_running (u : Apic) (x : LvtId) (l : Lvt) :
    (u.withLvt x l).running = u.running := by cases x <;> rfl

@[simp] theorem Apic.withLvt_frac (u : Apic) (x : LvtId) (l : Lvt) :
    (u.withLvt x l).frac = u.frac := by cases x <;> rfl

@[simp] theorem Apic.withLvt_core (u : Apic) (x : LvtId) (l : Lvt) :
    (u.withLvt x l).core = u.core := by cases x <;> rfl

@[simp] theorem Apic.withLvt_out (u : Apic) (x : LvtId) (l : Lvt) :
    (u.withLvt x l).out = u.out := by cases x <;> rfl

@[simp] theorem Apic.withLvt_lvt (u : Apic) (x : LvtId) (l : Lvt) : (u.withLvt x l).lvt x = l := by cases x <;> rfl

theorem Apic.withLvt_lvt_of_ne (u : Apic) {x y : LvtId} (h : y ≠ x) (l : Lvt) :
    (u.withLvt x l).lvt y = u.lvt y := by cases x <;> cases y <;> first | rfl | exact absurd rfl h

/-! ### `withRegs`: the three quantities of the interrupt logic -/

@[simp] theorem Apic.withRegs_hw (u : Apic) (r : IntrRegs) :
    (u.withRegs r).hw = u.hw := rfl

@[simp] theorem Apic.withRegs_base (u : Apic) (r : IntrRegs) :
    (u.withRegs r).base = u.base := rfl

@[simp] theorem Apic.withRegs_xapicId (u : Apic) (r : IntrRegs) :
    (u.withRegs r).xapicId = u.xapicId := rfl

@[simp] theorem Apic.withRegs_tpr (u : Apic) (r : IntrRegs) :
    (u.withRegs r).tpr = u.tpr := rfl

@[simp] theorem Apic.withRegs_ldr (u : Apic) (r : IntrRegs) :
    (u.withRegs r).ldr = u.ldr := rfl

@[simp] theorem Apic.withRegs_dfr (u : Apic) (r : IntrRegs) :
    (u.withRegs r).dfr = u.dfr := rfl

@[simp] theorem Apic.withRegs_svr (u : Apic) (r : IntrRegs) :
    (u.withRegs r).svr = u.svr := rfl

@[simp] theorem Apic.withRegs_isr (u : Apic) (r : IntrRegs) :
    (u.withRegs r).isr = r.isr := rfl

@[simp] theorem Apic.withRegs_tmr (u : Apic) (r : IntrRegs) :
    (u.withRegs r).tmr = r.tmr := rfl

@[simp] theorem Apic.withRegs_irr (u : Apic) (r : IntrRegs) :
    (u.withRegs r).irr = r.irr := rfl

@[simp] theorem Apic.withRegs_esr (u : Apic) (r : IntrRegs) :
    (u.withRegs r).esr = u.esr := rfl

@[simp] theorem Apic.withRegs_esrPending (u : Apic) (r : IntrRegs) :
    (u.withRegs r).esrPending = u.esrPending := rfl

@[simp] theorem Apic.withRegs_icr (u : Apic) (r : IntrRegs) :
    (u.withRegs r).icr = u.icr := rfl

@[simp] theorem Apic.withRegs_lvtTimer (u : Apic) (r : IntrRegs) :
    (u.withRegs r).lvtTimer = u.lvtTimer := rfl

@[simp] theorem Apic.withRegs_lvtThermal (u : Apic) (r : IntrRegs) :
    (u.withRegs r).lvtThermal = u.lvtThermal := rfl

@[simp] theorem Apic.withRegs_lvtPmr (u : Apic) (r : IntrRegs) :
    (u.withRegs r).lvtPmr = u.lvtPmr := rfl

@[simp] theorem Apic.withRegs_lvtLint0 (u : Apic) (r : IntrRegs) :
    (u.withRegs r).lvtLint0 = u.lvtLint0 := rfl

@[simp] theorem Apic.withRegs_lvtLint1 (u : Apic) (r : IntrRegs) :
    (u.withRegs r).lvtLint1 = u.lvtLint1 := rfl

@[simp] theorem Apic.withRegs_lvtError (u : Apic) (r : IntrRegs) :
    (u.withRegs r).lvtError = u.lvtError := rfl

@[simp] theorem Apic.withRegs_lvtCmci (u : Apic) (r : IntrRegs) :
    (u.withRegs r).lvtCmci = u.lvtCmci := rfl

@[simp] theorem Apic.withRegs_timerIcr (u : Apic) (r : IntrRegs) :
    (u.withRegs r).timerIcr = u.timerIcr := rfl

@[simp] theorem Apic.withRegs_timerDcr (u : Apic) (r : IntrRegs) :
    (u.withRegs r).timerDcr = u.timerDcr := rfl

@[simp] theorem Apic.withRegs_count (u : Apic) (r : IntrRegs) :
    (u.withRegs r).count = u.count := rfl

@[simp] theorem Apic.withRegs_running (u : Apic) (r : IntrRegs) :
    (u.withRegs r).running = u.running := rfl

@[simp] theorem Apic.withRegs_frac (u : Apic) (r : IntrRegs) :
    (u.withRegs r).frac = u.frac := rfl

@[simp] theorem Apic.withRegs_core (u : Apic) (r : IntrRegs) :
    (u.withRegs r).core = u.core := rfl

@[simp] theorem Apic.withRegs_out (u : Apic) (r : IntrRegs) :
    (u.withRegs r).out = u.out := rfl

@[simp] theorem Apic.withRegs_regs (u : Apic) (r : IntrRegs) : (u.withRegs r).regs = r := rfl

@[simp] theorem Apic.withRegs_lvt (u : Apic) (r : IntrRegs) (x : LvtId) : (u.withRegs r).lvt x = u.lvt x := by
  cases x <;> rfl

/-! ### `unraise`: a dispatched vector waits in no entry -/

@[simp] theorem Apic.unraise_hw (u : Apic) (v : Byte) :
    (u.unraise v).hw = u.hw := rfl

@[simp] theorem Apic.unraise_base (u : Apic) (v : Byte) :
    (u.unraise v).base = u.base := rfl

@[simp] theorem Apic.unraise_xapicId (u : Apic) (v : Byte) :
    (u.unraise v).xapicId = u.xapicId := rfl

@[simp] theorem Apic.unraise_tpr (u : Apic) (v : Byte) :
    (u.unraise v).tpr = u.tpr := rfl

@[simp] theorem Apic.unraise_ldr (u : Apic) (v : Byte) :
    (u.unraise v).ldr = u.ldr := rfl

@[simp] theorem Apic.unraise_dfr (u : Apic) (v : Byte) :
    (u.unraise v).dfr = u.dfr := rfl

@[simp] theorem Apic.unraise_svr (u : Apic) (v : Byte) :
    (u.unraise v).svr = u.svr := rfl

@[simp] theorem Apic.unraise_isr (u : Apic) (v : Byte) :
    (u.unraise v).isr = u.isr := rfl

@[simp] theorem Apic.unraise_tmr (u : Apic) (v : Byte) :
    (u.unraise v).tmr = u.tmr := rfl

@[simp] theorem Apic.unraise_irr (u : Apic) (v : Byte) :
    (u.unraise v).irr = u.irr := rfl

@[simp] theorem Apic.unraise_esr (u : Apic) (v : Byte) :
    (u.unraise v).esr = u.esr := rfl

@[simp] theorem Apic.unraise_esrPending (u : Apic) (v : Byte) :
    (u.unraise v).esrPending = u.esrPending := rfl

@[simp] theorem Apic.unraise_icr (u : Apic) (v : Byte) :
    (u.unraise v).icr = u.icr := rfl

@[simp] theorem Apic.unraise_timerIcr (u : Apic) (v : Byte) :
    (u.unraise v).timerIcr = u.timerIcr := rfl

@[simp] theorem Apic.unraise_timerDcr (u : Apic) (v : Byte) :
    (u.unraise v).timerDcr = u.timerDcr := rfl

@[simp] theorem Apic.unraise_count (u : Apic) (v : Byte) :
    (u.unraise v).count = u.count := rfl

@[simp] theorem Apic.unraise_running (u : Apic) (v : Byte) :
    (u.unraise v).running = u.running := rfl

@[simp] theorem Apic.unraise_frac (u : Apic) (v : Byte) :
    (u.unraise v).frac = u.frac := rfl

@[simp] theorem Apic.unraise_core (u : Apic) (v : Byte) :
    (u.unraise v).core = u.core := rfl

@[simp] theorem Apic.unraise_out (u : Apic) (v : Byte) :
    (u.unraise v).out = u.out := rfl

@[simp] theorem Apic.unraise_lvt_reg (u : Apic) (v : Byte) (x : LvtId) : ((u.unraise v).lvt x).reg = (u.lvt x).reg := by
  cases x <;> rfl

@[simp] theorem Apic.unraise_lvt_raised (u : Apic) (v : Byte) (x : LvtId) :
    ((u.unraise v).lvt x).raised = (u.lvt x).raised &&& ~~~(vecBit v) := by
  cases x <;> rfl

/-! ### `noteRaised`: an accepted vector is noted in the entry of its source -/

@[simp] theorem Apic.noteRaised_hw (u : Apic) (o : Origin) (v : Byte) :
    (u.noteRaised o v).hw = u.hw := by cases o <;> simp [Apic.noteRaised, Apic.withRaised]

@[simp] theorem Apic.noteRaised_base (u : Apic) (o : Origin) (v : Byte) :
    (u.noteRaised o v).base = u.base := by cases o <;> simp [Apic.noteRaised, Apic.withRaised]

@[simp] theorem Apic.noteRaised_xapicId (u : Apic) (o : Origin) (v : Byte) :
    (u.noteRaised o v).xapicId = u.xapicId := by cases o <;> simp [Apic.noteRaised, Apic.withRaised]

@[simp] theorem Apic.noteRaised_tpr (u : Apic) (o : Origin) (v : Byte) :
    (u.noteRaised o v).tpr = u.tpr := by cases o <;> simp [Apic.noteRaised, Apic.withRaised]

@[simp] theorem Apic.noteRaised_ldr (u : Apic) (o : Origin) (v : Byte) :
    (u.noteRaised o v).ldr = u.ldr := by cases o <;> simp [Apic.noteRaised, Apic.withRaised]

@[simp] theorem Apic.noteRaised_dfr (u : Apic) (o : Origin) (v : Byte) :
    (u.noteRaised o v).dfr = u.dfr := by cases o <;> simp [Apic.noteRaised, Apic.withRaised]

@[simp] theorem Apic.noteRaised_svr (u : Apic) (o : Origin) (v : Byte) :
    (u.noteRaised o v).svr = u.svr := by cases o <;> simp [Apic.noteRaised, Apic.withRaised]

@[simp] theorem Apic.noteRaised_isr (u : Apic) (o : Origin) (v : Byte) :
    (u.noteRaised o v).isr = u.isr := by cases o <;> simp [Apic.noteRaised, Apic.withRaised]

@[simp] theorem Apic.noteRaised_tmr (u : Apic) (o : Origin) (v : Byte) :
    (u.noteRaised o v).tmr = u.tmr := by cases o <;> simp [Apic.noteRaised, Apic.withRaised]

@[simp] theorem Apic.noteRaised_irr (u : Apic) (o : Origin) (v : Byte) :
    (u.noteRaised o v).irr = u.irr := by cases o <;> simp [Apic.noteRaised, Apic.withRaised]

@[simp] theorem Apic.noteRaised_esr (u : Apic) (o : Origin) (v : Byte) :
    (u.noteRaised o v).esr = u.esr := by cases o <;> simp [Apic.noteRaised, Apic.withRaised]

@[simp] theorem Apic.noteRaised_esrPending (u : Apic) (o : Origin) (v : Byte) :
    (u.noteRaised o v).esrPending = u.esrPending := by cases o <;> simp [Apic.noteRaised, Apic.withRaised]

@[simp] theorem Apic.noteRaised_icr (u : Apic) (o : Origin) (v : Byte) :
    (u.noteRaised o v).icr = u.icr := by cases o <;> simp [Apic.noteRaised, Apic.withRaised]

@[simp] theorem Apic.noteRaised_timerIcr (u : Apic) (o : Origin) (v : Byte) :
    (u.noteRaised o v).timerIcr = u.timerIcr := by cases o <;> simp [Apic.noteRaised, Apic.withRaised]

@[simp] theorem Apic.noteRaised_timerDcr (u : Apic) (o : Origin) (v : Byte) :
    (u.noteRaised o v).timerDcr = u.timerDcr := by cases o <;> simp [Apic.noteRaised, Apic.withRaised]

@[simp] theorem Apic.noteRaised_count (u : Apic) (o : Origin) (v : Byte) :
    (u.noteRaised o v).count = u.count := by cases o <;> simp [Apic.noteRaised, Apic.withRaised]

@[simp] theorem Apic.noteRaised_running (u : Apic) (o : Origin) (v : Byte) :
    (u.noteRaised o v).running = u.running := by cases o <;> simp [Apic.noteRaised, Apic.withRaised]

@[simp] theorem Apic.noteRaised_frac (u : Apic) (o : Origin) (v : Byte) :
    (u.noteRaised o v).frac = u.frac := by cases o <;> simp [Apic.noteRaised, Apic.withRaised]

@[simp] theorem Apic.noteRaised_core (u : Apic) (o : Origin) (v : Byte) :
    (u.noteRaised o v).core = u.core := by cases o <;> simp [Apic.noteRaised, Apic.withRaised]

@[simp] theorem Apic.noteRaised_out (u : Apic) (o : Origin) (v : Byte) :
    (u.noteRaised o v).out = u.out := by cases o <;> simp [Apic.noteRaised, Apic.withRaised]

@[simp] theorem Apic.noteRaised_lvt_reg (u : Apic) (o : Origin) (v : Byte) (x : LvtId) :
    ((u.noteRaised o v).lvt x).reg = (u.lvt x).reg := by
  cases o with
  | sent => rfl
  | held => rfl
  | source y => cases x <;> cases y <;> rfl

end Sys2Proof.Machine
end

