-- ==== Sys2Proof/Laws/Ops.lean ====
section
/-! SUPPORT. For each shared operation one lemma that says once what it can do: the access templates, accepting and
logging, offering, taking and EOI by the default interrupt logic, sending. `Kept` is the frame of the interrupt logic:
what accepting an interrupt or logging an error never touches. -/

namespace Sys2Proof.Machine

/-! ### The access templates -/

/-- An RDMSR that completes answers its value where the common checks pass, and GP(0) where they do not. -/
theorem rdmsrThen_cases {val : W64} {after s t : State} (h : rdmsrThen val after s = .next t) :
    (msrOpen s = true ∧ t = after.answered (.value val)) ∨ (msrOpen s = false ∧ t = raiseGP s) := by
  unfold rdmsrThen at h
  cases ho : msrOpen s <;> simp_all

/-- A WRMSR that completes has its effect where every check passes, and is GP(0) where one does not. -/
theorem wrmsr_cases {rsvd val : W64} {f : State → State} {s t : State} (h : wrmsr rsvd val f s = .next t) :
    (msrOpen s = true ∧ val &&& rsvd = 0#64 ∧ t = (f s).answered .done)
      ∨ ((msrOpen s = false ∨ val &&& rsvd ≠ 0#64) ∧ t = raiseGP s) := by
  unfold wrmsr at h
  by_cases ho : msrOpen s = true <;> by_cases hv : val &&& rsvd = 0#64 <;> simp_all

/-- An MMIO access that completes is one of xAPIC mode on the unit's own page. -/
theorem mmio_cases {page : PageNo} {f : State → State} {s t : State} (h : mmio page f s = .next t) :
    s.self.mode = .xapic ∧ page = s.self.base.page ∧ t = f s := by
  unfold mmio at h
  split at h
  · cases h
  · split at h
    · cases h
    · rename_i hm hp
      exact ⟨by simpa using hm, by simpa using hp, by simpa using h.symm⟩

/-- An MSR access of the unit passes the common checks exactly at CPL 0 in x2APIC mode. -/
theorem msrOpen_iff {s : State} : msrOpen s = true ↔ s.self.core.cpl = 0#2 ∧ s.self.mode = .x2apic := by
  simp [msrOpen]

/-! ### The highest vector -/

theorem getLsbD_log2 {b : Bits256} (h : b ≠ 0#256) : b.getLsbD b.toNat.log2 = true := by
  have hn : b.toNat ≠ 0 := fun h0 => h (BitVec.eq_of_toNat_eq (by simpa using h0))
  rw [BitVec.getLsbD, Nat.testBit_log2 hn]

theorem log2_lt_256 (b : Bits256) : b.toNat.log2 < 256 := by
  by_cases h : b.toNat = 0
  · simp [h]
  · exact (Nat.log2_lt h).2 b.isLt

/-- `highest` answers a vector exactly when it is set and none above it is. -/
theorem highest_eq_some {b : Bits256} {v : Byte} :
    highest b = some v ↔ b.getLsbD v.toNat = true ∧ ∀ w : Byte, v < w → b.getLsbD w.toNat = false := by
  unfold highest
  split
  · rename_i h0
    subst h0
    simp
  · rename_i h0
    have hlt := log2_lt_256 b
    have hself : (BitVec.ofNat 8 b.toNat.log2).toNat = b.toNat.log2 := by
      simp only [BitVec.toNat_ofNat]
      omega
    constructor
    · intro h
      cases h
      refine ⟨by rw [hself]; exact getLsbD_log2 h0, fun w hw => ?_⟩
      have hw' : b.toNat.log2 < w.toNat := by simpa [BitVec.lt_def, hself] using hw
      exact Nat.testBit_lt_two_pow (Nat.lt_of_lt_of_le Nat.lt_log2_self (Nat.pow_le_pow_right (by omega) hw'))
    · rintro ⟨hv, habove⟩
      congr 1
      apply BitVec.eq_of_toNat_eq
      rw [hself]
      have h1 : v.toNat ≤ b.toNat.log2 := by
        by_contra hc
        have : b.toNat.testBit v.toNat = false :=
          Nat.testBit_lt_two_pow (Nat.lt_of_lt_of_le Nat.lt_log2_self (Nat.pow_le_pow_right (by omega) (by omega)))
        rw [BitVec.getLsbD, this] at hv
        cases hv
      rcases Nat.lt_or_eq_of_le h1 with h2 | h2
      · have := habove (BitVec.ofNat 8 b.toNat.log2) (by simpa [BitVec.lt_def, hself] using h2)
        rw [hself, getLsbD_log2 h0] at this
        cases this
      · exact h2.symm

/-- `highest` answers none exactly when no vector is set. -/
theorem highest_eq_none {b : Bits256} : highest b = none ↔ b = 0#256 := by
  unfold highest
  split <;> simp_all

/-! ### The frame of the interrupt logic -/

/-- `t` differs from `s` only in IRR, TMR, esr_pending, the sources' records, messages added, free values used (and in
ISR only where the unit's interrupt logic is not the default one). -/
structure Kept (s t : State) : Prop where
  others : t.others = s.others
  schedule : t.schedule = s.schedule
  inflight : ∃ sent, t.inflight = s.inflight ++ sent
  hw : t.self.hw = s.self.hw
  base : t.self.base = s.self.base
  xapicId : t.self.xapicId = s.self.xapicId
  tpr : t.self.tpr = s.self.tpr
  ldr : t.self.ldr = s.self.ldr
  dfr : t.self.dfr = s.self.dfr
  svr : t.self.svr = s.self.svr
  isr : s.self.hw.logic = .standard → t.self.isr = s.self.isr
  esr : t.self.esr = s.self.esr
  icr : t.self.icr = s.self.icr
  lvtReg : ∀ x, (t.self.lvt x).reg = (s.self.lvt x).reg
  timerIcr : t.self.timerIcr = s.self.timerIcr
  timerDcr : t.self.timerDcr = s.self.timerDcr
  count : t.self.count = s.self.count
  running : t.self.running = s.self.running
  frac : t.self.frac = s.self.frac
  core : t.self.core = s.self.core
  out : t.self.out = s.self.out

theorem Kept.refl (s : State) : Kept s s :=
  ⟨rfl, rfl, ⟨[], by simp⟩, rfl, rfl, rfl, rfl, rfl, rfl, rfl, fun _ => rfl, rfl, rfl, fun _ => rfl, rfl, rfl, rfl, rfl,
    rfl, rfl, rfl⟩

theorem Kept.trans {s t u : State} (h : Kept s t) (k : Kept t u) : Kept s u where
  others := k.others.trans h.others
  schedule := k.schedule.trans h.schedule
  inflight := by
    obtain ⟨a, ha⟩ := h.inflight
    obtain ⟨b, hb⟩ := k.inflight
    exact ⟨a ++ b, by rw [hb, ha, List.append_assoc]⟩
  hw := k.hw.trans h.hw
  base := k.base.trans h.base
  xapicId := k.xapicId.trans h.xapicId
  tpr := k.tpr.trans h.tpr
  ldr := k.ldr.trans h.ldr
  dfr := k.dfr.trans h.dfr
  svr := k.svr.trans h.svr
  isr := fun hl => (k.isr (by rw [h.hw]; exact hl)).trans (h.isr hl)
  esr := k.esr.trans h.esr
  icr := k.icr.trans h.icr
  lvtReg := fun x => (k.lvtReg x).trans (h.lvtReg x)
  timerIcr := k.timerIcr.trans h.timerIcr
  timerDcr := k.timerDcr.trans h.timerDcr
  count := k.count.trans h.count
  running := k.running.trans h.running
  frac := k.frac.trans h.frac
  core := k.core.trans h.core
  out := k.out.trans h.out

theorem drew_kept (n : Nat) (s : State) : Kept s (s.drew n) :=
  ⟨rfl, rfl, ⟨[], by simp⟩, rfl, rfl, rfl, rfl, rfl, rfl, rfl, fun _ => rfl, rfl, rfl, fun _ => rfl, rfl, rfl, rfl, rfl,
    rfl, rfl, rfl⟩

theorem post_kept (m : Msg) (s : State) : Kept s (s.post m) :=
  ⟨rfl, rfl, ⟨[m], rfl⟩, rfl, rfl, rfl, rfl, rfl, rfl, rfl, fun _ => rfl, rfl, rfl, fun _ => rfl, rfl, rfl, rfl, rfl, rfl,
    rfl, rfl⟩

/-! ### Accepting -/

/-- An interrupt that is not accepted is held as one message more in flight to the unit, or lost. -/
theorem notAccepted_cases (o : Origin) (vec : Byte) (level : Bool) (s : State) :
    notAccepted o vec level s = s.drew 1
      ∨ notAccepted o vec level s = (s.drew 1).post (heldMessage s.self.x2apicId o vec level) := by
  unfold notAccepted
  split <;> simp

theorem notAccepted_kept (o : Origin) (vec : Byte) (level : Bool) (s : State) :
    Kept s (notAccepted o vec level s) := by
  rcases notAccepted_cases o vec level s with h | h <;> rw [h]
  · exact drew_kept 1 s
  · exact (drew_kept 1 s).trans (post_kept _ _)

/-- An enabled unit accepts by its interrupt logic, and its local source notes the vector. -/
theorem accept_of_enabled {s : State} (hen : s.self.base.en = true) (hsvr : s.self.svr.getLsbD 8 = true) (o : Origin)
    (vec : Byte) (level : Bool) :
    accept o vec level s = s.mapSelf fun u =>
      (u.withRegs ((logicOf u.hw.logic).accept vec level u.regs)).noteRaised o vec := by
  simp [accept, hen, hsvr]

theorem accept_of_disabled {s : State} (h : (s.self.base.en && s.self.svr.getLsbD 8) = false) (o : Origin) (vec : Byte)
    (level : Bool) : accept o vec level s = notAccepted o vec level s := by
  unfold accept
  rw [h]
  rfl

theorem accept_kept (o : Origin) (vec : Byte) (level : Bool) (s : State) : Kept s (accept o vec level s) := by
  unfold accept
  split
  · constructor <;> simp
    intro hl
    simp [hl, logicOf, standardLogic, standardAccept, Apic.regs]
  · exact notAccepted_kept o vec level s

/-- What accepting by the default logic can do to IRR and TMR: set the one bit of an enabled unit, or nothing. -/
theorem accept_bits {s : State} (hlogic : s.self.hw.logic = .standard) (o : Origin) (vec : Byte) (level : Bool) :
    ((accept o vec level s).self.irr = s.self.irr ∧ (accept o vec level s).self.tmr = s.self.tmr)
      ∨ (s.self.base.en = true ∧ (accept o vec level s).self.irr = s.self.irr ||| vecBit vec
        ∧ (accept o vec level s).self.tmr
            = if level then s.self.tmr ||| vecBit vec else s.self.tmr &&& ~~~(vecBit vec)) := by
  by_cases h : (s.self.base.en && s.self.svr.getLsbD 8) = true
  · simp only [Bool.and_eq_true] at h
    rw [accept_of_enabled h.1 h.2]
    refine .inr ⟨h.1, ?_, ?_⟩ <;> simp [hlogic, logicOf, standardLogic, standardAccept, Apic.regs]
  · rw [accept_of_disabled (by simpa using h)]
    left
    rcases notAccepted_cases o vec level s with h | h <;> rw [h] <;> exact ⟨rfl, rfl⟩

theorem accept_esrPending (o : Origin) (vec : Byte) (level : Bool) (s : State) :
    (accept o vec level s).self.esrPending = s.self.esrPending := by
  by_cases h : (s.self.base.en && s.self.svr.getLsbD 8) = true
  · simp only [Bool.and_eq_true] at h
    rw [accept_of_enabled h.1 h.2]
    simp
  · rw [accept_of_disabled (by simpa using h)]
    rcases notAccepted_cases o vec level s with h | h <;> rw [h] <;> rfl

/-! ### Logging an error -/

theorem setErrorBit_kept (b : Nat) (s : State) : Kept s (setErrorBit b s) :=
  ⟨rfl, rfl, ⟨[], by simp [setErrorBit]⟩, rfl, rfl, rfl, rfl, rfl, rfl, rfl, fun _ => rfl, rfl, rfl, fun _ => rfl, rfl,
    rfl, rfl, rfl, rfl, rfl, rfl⟩

theorem errorInterrupt_kept (s : State) : Kept s (errorInterrupt s) := by
  unfold errorInterrupt
  simp only []
  split
  · exact setErrorBit_kept 6 s
  · exact accept_kept _ _ _ s

/-- Logging an error sets its bit, and then is the error interrupt or nothing, after a free value or none. -/
theorem logError_cases (b : Nat) (s : State) :
    logError b s = setErrorBit b s
      ∨ logError b s = (setErrorBit b s).drew 1
      ∨ (lvtMasked s.self.lvtError.reg = false ∧ logError b s = errorInterrupt (setErrorBit b s))
      ∨ (lvtMasked s.self.lvtError.reg = false ∧ logError b s = errorInterrupt ((setErrorBit b s).drew 1)) := by
  unfold logError
  cases h : lvtMasked s.self.lvtError.reg
  · simp only [Bool.false_eq_true, if_false]
    split
    · simp
    · split <;> simp
  · simp

theorem logError_of_masked {s : State} (h : lvtMasked s.self.lvtError.reg = true) (b : Nat) :
    logError b s = setErrorBit b s := by
  simp [logError, h]

theorem logError_kept (b : Nat) (s : State) : Kept s (logError b s) := by
  rcases logError_cases b s with h | h | ⟨-, h⟩ | ⟨-, h⟩ <;> rw [h]
  · exact setErrorBit_kept b s
  · exact (setErrorBit_kept b s).trans (drew_kept 1 _)
  · exact (setErrorBit_kept b s).trans (errorInterrupt_kept _)
  · exact ((setErrorBit_kept b s).trans (drew_kept 1 _)).trans (errorInterrupt_kept _)

theorem arrive_kept (o : Origin) (vec : Byte) (level : Bool) (s : State) : Kept s (arrive o vec level s) := by
  unfold arrive
  split
  · exact logError_kept 6 s
  · exact accept_kept o vec level s

/-! ### Offering, taking and EOI by the default logic -/

/-- The default logic offers the highest pending vector, when its class is above the processor priority class. -/
theorem offered_standard {u : Apic} (h : u.hw.logic = .standard) {v : Byte} :
    offered u = some v ↔ highest u.irr = some v ∧ pprClass u.tpr u.isr < classOf v := by
  simp only [offered, h, logicOf, standardLogic, standardOffered, Apic.regs]
  cases highest u.irr with
  | none => simp
  | some w =>
    by_cases hc : pprClass u.tpr u.isr < classOf w <;> simp only [hc, if_true, if_false, Option.some.injEq]
    · refine ⟨fun e => ⟨e, e ▸ hc⟩, And.left⟩
    · refine ⟨fun e => (nomatch e), ?_⟩
      rintro ⟨rfl, hw⟩
      exact absurd hw hc

/-- Taking a vector by the default logic moves it from IRR to ISR. -/
theorem dispatch_standard {s : State} (h : s.self.hw.logic = .standard) (v : Byte) :
    dispatch v s = s.mapSelf fun u =>
      { u.unraise v with
        irr := u.irr &&& ~~~(vecBit v)
        isr := u.isr ||| vecBit v
        core := { u.core with sampled := false, tprBoundary := false }
        out := u.out ++ [.taken v] } := by
  simp only [dispatch, State.mapSelf, h, logicOf, standardLogic, standardDispatch]
  rfl

/-- The end of the highest interrupt in service by the default logic: nothing without one; otherwise its ISR bit is
cleared, and its EOI is broadcast where it was level-triggered and the broadcast is not suppressed. -/
theorem eoi_standard {s : State} (h : s.self.hw.logic = .standard) :
    (s.self.isr = 0#256 ∧ eoi s = s)
      ∨ ∃ v, highest s.self.isr = some v
        ∧ eoi s =
          let t := s.mapSelf fun u => { u with isr := u.isr &&& ~~~(vecBit v) }
          if s.self.tmr.getLsbD v.toNat && !suppressesEoi s.self then t.emit (.eoiBroadcast v) else t := by
  cases hv : highest s.self.isr with
  | none =>
    refine .inl ⟨highest_eq_none.1 hv, ?_⟩
    simp [eoi, h, logicOf, standardLogic, standardEoi, Apic.regs, Apic.withRegs, hv, State.mapSelf]
  | some v =>
    refine .inr ⟨v, rfl, ?_⟩
    by_cases hb : (s.self.tmr.getLsbD v.toNat && !suppressesEoi s.self) = true
    · simp [eoi, h, logicOf, standardLogic, standardEoi, Apic.regs, Apic.withRegs, hv, hb, State.mapSelf]
    · simp [eoi, h, logicOf, standardLogic, standardEoi, Apic.regs, Apic.withRegs, hv, hb, State.mapSelf]

/-! ### Sending -/

theorem sendIpi_kept (c : Command) (s : State) : Kept s (sendIpi c s) :=
  ⟨rfl, rfl, ⟨_, rfl⟩, rfl, rfl, rfl, rfl, rfl, rfl, rfl, fun _ => rfl, rfl, rfl, fun _ => rfl, rfl, rfl, rfl, rfl, rfl,
    rfl, rfl⟩

theorem sendIllegalVector_cases (c : Command) (s : State) :
    sendIllegalVector c s = (logError 5 s).drew 1 ∨ sendIllegalVector c s = sendIpi c ((logError 5 s).drew 1) := by
  unfold sendIllegalVector
  simp only []
  split <;> simp

theorem sendCommand_kept (c : Command) (s : State) : Kept s (sendCommand c s) := by
  unfold sendCommand
  split
  · have hk : Kept s ((logError 5 s).drew 1) := (logError_kept 5 s).trans (drew_kept 1 _)
    rcases sendIllegalVector_cases c s with h | h <;> rw [h]
    · exact hk
    · exact hk.trans (sendIpi_kept c _)
  · exact sendIpi_kept c s

/-- The targets depend on the acting unit only through its mode, its IDs and its LDR. -/
theorem targets_congr {c : Command} {s t : State} (hd : t.draws = s.draws) (ho : t.others = s.others)
    (hw : t.self.hw = s.self.hw) (hb : t.self.base = s.self.base) (hx : t.self.xapicId = s.self.xapicId)
    (hl : t.self.ldr = s.self.ldr) : targets c t = targets c s := by
  have hself : ∀ (free isSelf : Bool) (u v w x : Apic), u.hw = v.hw → u.base = v.base → u.xapicId = v.xapicId →
      u.ldr = v.ldr → w.hw = x.hw → w.base = x.base → w.xapicId = x.xapicId → w.ldr = x.ldr →
      isTarget free c u isSelf w = isTarget free c v isSelf x := by
    intro free isSelf u v w x h1 h2 h3 h4 h5 h6 h7 h8
    simp only [isTarget, Apic.mode, matchesX2apic, matchesXapic, Apic.x2apicId, h2, h5, h6, h7, h8]
    congr!
  have hothers : ∀ (us : List Apic) (n : Nat), otherTargets n c t.self us = otherTargets n c s.self us := by
    intro us
    induction us with
    | nil => intro n; rfl
    | cons u us ih =>
      intro n
      simp only [otherTargets, ih,
        hself ((Config.free n).getLsbD 0) false t.self s.self u u hw hb hx hl rfl rfl rfl rfl]
  unfold targets
  rw [hself t.freeBool true t.self s.self t.self s.self hw hb hx hl hw hb hx hl]
  simp only [State.freeBool, State.freeWord, hd, ho, hothers, Apic.x2apicId, hw]
  congr!

end Sys2Proof.Machine
end

