-- ==== Sys2Proof/Laws/PerInstr.lean ====
section
/-! SUPPORT. The family `EncodingInRow`, one lemma per constructor: the access that a well-formed operation encodes to
has the format of its row of spec/opcode_table.json, and its address bits under the row's mask are the row's match. -/

set_option Elab.async false

namespace Sys2Proof.Laws

/-- The formats of spec/opcode_table.json. -/
inductive RowFormat where
  /-- MSR-R. -/
  | msrR
  /-- MSR-W. -/
  | msrW
  /-- MMIO-R. -/
  | mmioR
  /-- MMIO-W. -/
  | mmioW
  /-- CPUID. -/
  | cpuid
  /-- x86. -/
  | x86
deriving DecidableEq, Repr

/-- The format of an access. -/
def formatOf : Access → RowFormat
  | .msrR _ => .msrR
  | .msrW _ _ => .msrW
  | .mmioR _ _ => .mmioR
  | .mmioW _ _ _ => .mmioW
  | .cpuid _ _ => .cpuid
  | .x86 _ => .x86

/-- The bits of an access that the table's `match` and `mask` are over: the MSR address, the page offset, the leaf, the
two bytes with the first one above. -/
def addressBits : Access → W32
  | .msrR addr => addr
  | .msrW addr _ => addr
  | .mmioR pa _ => (pa.extractLsb' 0 12).setWidth 32
  | .mmioW pa _ _ => (pa.extractLsb' 0 12).setWidth 32
  | .cpuid leaf _ => leaf
  | .x86 bytes => bytes.foldl (fun n b => (n <<< 8) ||| b.setWidth 32) 0#32

/-- The row of each operation: its format, its mask, its match. -/
def rowOf : Instr → RowFormat × W32 × W32
  | .rdmsrIa32ApicBase => (.msrR, 0xFFFFFFFF#32, 0x0000001B#32)
  | .wrmsrIa32ApicBase _ => (.msrW, 0xFFFFFFFF#32, 0x0000001B#32)
  | .rdmsrId => (.msrR, 0xFFFFFFFF#32, 0x00000802#32)
  | .wrmsrId _ => (.msrW, 0xFFFFFFFF#32, 0x00000802#32)
  | .rdmsrVer => (.msrR, 0xFFFFFFFF#32, 0x00000803#32)
  | .wrmsrVer _ => (.msrW, 0xFFFFFFFF#32, 0x00000803#32)
  | .rdmsrTpr => (.msrR, 0xFFFFFFFF#32, 0x00000808#32)
  | .wrmsrTpr _ => (.msrW, 0xFFFFFFFF#32, 0x00000808#32)
  | .rdmsrPpr => (.msrR, 0xFFFFFFFF#32, 0x0000080A#32)
  | .wrmsrPpr _ => (.msrW, 0xFFFFFFFF#32, 0x0000080A#32)
  | .rdmsrEoi => (.msrR, 0xFFFFFFFF#32, 0x0000080B#32)
  | .wrmsrEoi _ => (.msrW, 0xFFFFFFFF#32, 0x0000080B#32)
  | .rdmsrLdr => (.msrR, 0xFFFFFFFF#32, 0x0000080D#32)
  | .wrmsrLdr _ => (.msrW, 0xFFFFFFFF#32, 0x0000080D#32)
  | .rdmsrSvr => (.msrR, 0xFFFFFFFF#32, 0x0000080F#32)
  | .wrmsrSvr _ => (.msrW, 0xFFFFFFFF#32, 0x0000080F#32)
  | .rdmsrEsr => (.msrR, 0xFFFFFFFF#32, 0x00000828#32)
  | .wrmsrEsr _ => (.msrW, 0xFFFFFFFF#32, 0x00000828#32)
  | .rdmsrIcr => (.msrR, 0xFFFFFFFF#32, 0x00000830#32)
  | .wrmsrIcr _ => (.msrW, 0xFFFFFFFF#32, 0x00000830#32)
  | .rdmsrLvtTimer => (.msrR, 0xFFFFFFFF#32, 0x00000832#32)
  | .wrmsrLvtTimer _ => (.msrW, 0xFFFFFFFF#32, 0x00000832#32)
  | .rdmsrLvtThermal => (.msrR, 0xFFFFFFFF#32, 0x00000833#32)
  | .wrmsrLvtThermal _ => (.msrW, 0xFFFFFFFF#32, 0x00000833#32)
  | .rdmsrLvtPmr => (.msrR, 0xFFFFFFFF#32, 0x00000834#32)
  | .wrmsrLvtPmr _ => (.msrW, 0xFFFFFFFF#32, 0x00000834#32)
  | .rdmsrLvtLint0 => (.msrR, 0xFFFFFFFF#32, 0x00000835#32)
  | .wrmsrLvtLint0 _ => (.msrW, 0xFFFFFFFF#32, 0x00000835#32)
  | .rdmsrLvtLint1 => (.msrR, 0xFFFFFFFF#32, 0x00000836#32)
  | .wrmsrLvtLint1 _ => (.msrW, 0xFFFFFFFF#32, 0x00000836#32)
  | .rdmsrLvtError => (.msrR, 0xFFFFFFFF#32, 0x00000837#32)
  | .wrmsrLvtError _ => (.msrW, 0xFFFFFFFF#32, 0x00000837#32)
  | .rdmsrTimerIcr => (.msrR, 0xFFFFFFFF#32, 0x00000838#32)
  | .wrmsrTimerIcr _ => (.msrW, 0xFFFFFFFF#32, 0x00000838#32)
  | .rdmsrTimerCcr => (.msrR, 0xFFFFFFFF#32, 0x00000839#32)
  | .wrmsrTimerCcr _ => (.msrW, 0xFFFFFFFF#32, 0x00000839#32)
  | .rdmsrTimerDcr => (.msrR, 0xFFFFFFFF#32, 0x0000083E#32)
  | .wrmsrTimerDcr _ => (.msrW, 0xFFFFFFFF#32, 0x0000083E#32)
  | .rdmsrSelfIpi => (.msrR, 0xFFFFFFFF#32, 0x0000083F#32)
  | .wrmsrSelfIpi _ => (.msrW, 0xFFFFFFFF#32, 0x0000083F#32)
  | .rdmsrIsrk _ => (.msrR, 0xFFFFFFF8#32, 0x00000810#32)
  | .wrmsrIsrk _ _ => (.msrW, 0xFFFFFFF8#32, 0x00000810#32)
  | .rdmsrTmrk _ => (.msrR, 0xFFFFFFF8#32, 0x00000818#32)
  | .wrmsrTmrk _ _ => (.msrW, 0xFFFFFFF8#32, 0x00000818#32)
  | .rdmsrIrrk _ => (.msrR, 0xFFFFFFF8#32, 0x00000820#32)
  | .wrmsrIrrk _ _ => (.msrW, 0xFFFFFFF8#32, 0x00000820#32)
  | .rdmsrReserved800 => (.msrR, 0xFFFFFFFF#32, 0x00000800#32)
  | .wrmsrReserved800 _ => (.msrW, 0xFFFFFFFF#32, 0x00000800#32)
  | .rdmsrReserved801 => (.msrR, 0xFFFFFFFF#32, 0x00000801#32)
  | .wrmsrReserved801 _ => (.msrW, 0xFFFFFFFF#32, 0x00000801#32)
  | .rdmsrReserved804 => (.msrR, 0xFFFFFFFF#32, 0x00000804#32)
  | .wrmsrReserved804 _ => (.msrW, 0xFFFFFFFF#32, 0x00000804#32)
  | .rdmsrReserved805 => (.msrR, 0xFFFFFFFF#32, 0x00000805#32)
  | .wrmsrReserved805 _ => (.msrW, 0xFFFFFFFF#32, 0x00000805#32)
  | .rdmsrReserved806 => (.msrR, 0xFFFFFFFF#32, 0x00000806#32)
  | .wrmsrReserved806 _ => (.msrW, 0xFFFFFFFF#32, 0x00000806#32)
  | .rdmsrReserved807 => (.msrR, 0xFFFFFFFF#32, 0x00000807#32)
  | .wrmsrReserved807 _ => (.msrW, 0xFFFFFFFF#32, 0x00000807#32)
  | .rdmsrReserved809 => (.msrR, 0xFFFFFFFF#32, 0x00000809#32)
  | .wrmsrReserved809 _ => (.msrW, 0xFFFFFFFF#32, 0x00000809#32)
  | .rdmsrReserved80C => (.msrR, 0xFFFFFFFF#32, 0x0000080C#32)
  | .wrmsrReserved80C _ => (.msrW, 0xFFFFFFFF#32, 0x0000080C#32)
  | .rdmsrReserved80E => (.msrR, 0xFFFFFFFF#32, 0x0000080E#32)
  | .wrmsrReserved80E _ => (.msrW, 0xFFFFFFFF#32, 0x0000080E#32)
  | .rdmsrReserved829 => (.msrR, 0xFFFFFFFF#32, 0x00000829#32)
  | .wrmsrReserved829 _ => (.msrW, 0xFFFFFFFF#32, 0x00000829#32)
  | .rdmsrReserved82A => (.msrR, 0xFFFFFFFF#32, 0x0000082A#32)
  | .wrmsrReserved82A _ => (.msrW, 0xFFFFFFFF#32, 0x0000082A#32)
  | .rdmsrReserved82B => (.msrR, 0xFFFFFFFF#32, 0x0000082B#32)
  | .wrmsrReserved82B _ => (.msrW, 0xFFFFFFFF#32, 0x0000082B#32)
  | .rdmsrReserved82C => (.msrR, 0xFFFFFFFF#32, 0x0000082C#32)
  | .wrmsrReserved82C _ => (.msrW, 0xFFFFFFFF#32, 0x0000082C#32)
  | .rdmsrReserved82D => (.msrR, 0xFFFFFFFF#32, 0x0000082D#32)
  | .wrmsrReserved82D _ => (.msrW, 0xFFFFFFFF#32, 0x0000082D#32)
  | .rdmsrReserved82E => (.msrR, 0xFFFFFFFF#32, 0x0000082E#32)
  | .wrmsrReserved82E _ => (.msrW, 0xFFFFFFFF#32, 0x0000082E#32)
  | .rdmsrReserved82F => (.msrR, 0xFFFFFFFF#32, 0x0000082F#32)
  | .wrmsrReserved82F _ => (.msrW, 0xFFFFFFFF#32, 0x0000082F#32)
  | .rdmsrReserved831 => (.msrR, 0xFFFFFFFF#32, 0x00000831#32)
  | .wrmsrReserved831 _ => (.msrW, 0xFFFFFFFF#32, 0x00000831#32)
  | .rdmsrReserved83A => (.msrR, 0xFFFFFFFF#32, 0x0000083A#32)
  | .wrmsrReserved83A _ => (.msrW, 0xFFFFFFFF#32, 0x0000083A#32)
  | .rdmsrReserved83B => (.msrR, 0xFFFFFFFF#32, 0x0000083B#32)
  | .wrmsrReserved83B _ => (.msrW, 0xFFFFFFFF#32, 0x0000083B#32)
  | .rdmsrReserved83C => (.msrR, 0xFFFFFFFF#32, 0x0000083C#32)
  | .wrmsrReserved83C _ => (.msrW, 0xFFFFFFFF#32, 0x0000083C#32)
  | .rdmsrReserved83D => (.msrR, 0xFFFFFFFF#32, 0x0000083D#32)
  | .wrmsrReserved83D _ => (.msrW, 0xFFFFFFFF#32, 0x0000083D#32)
  | .rdmsrReserved _ => (.msrR, 0xFFFFFC00#32, 0x00000800#32)
  | .wrmsrReserved _ _ => (.msrW, 0xFFFFFC00#32, 0x00000800#32)
  | .loadId _ => (.mmioR, 0xFFF#32, 0x020#32)
  | .storeId _ _ => (.mmioW, 0xFFF#32, 0x020#32)
  | .loadVer _ => (.mmioR, 0xFFF#32, 0x030#32)
  | .storeVer _ _ => (.mmioW, 0xFFF#32, 0x030#32)
  | .loadTpr _ => (.mmioR, 0xFFF#32, 0x080#32)
  | .storeTpr _ _ => (.mmioW, 0xFFF#32, 0x080#32)
  | .loadApr _ => (.mmioR, 0xFFF#32, 0x090#32)
  | .storeApr _ _ => (.mmioW, 0xFFF#32, 0x090#32)
  | .loadPpr _ => (.mmioR, 0xFFF#32, 0x0A0#32)
  | .storePpr _ _ => (.mmioW, 0xFFF#32, 0x0A0#32)
  | .loadEoi _ => (.mmioR, 0xFFF#32, 0x0B0#32)
  | .storeEoi _ _ => (.mmioW, 0xFFF#32, 0x0B0#32)
  | .loadRrr _ => (.mmioR, 0xFFF#32, 0x0C0#32)
  | .storeRrr _ _ => (.mmioW, 0xFFF#32, 0x0C0#32)
  | .loadLdr _ => (.mmioR, 0xFFF#32, 0x0D0#32)
  | .storeLdr _ _ => (.mmioW, 0xFFF#32, 0x0D0#32)
  | .loadDfr _ => (.mmioR, 0xFFF#32, 0x0E0#32)
  | .storeDfr _ _ => (.mmioW, 0xFFF#32, 0x0E0#32)
  | .loadSvr _ => (.mmioR, 0xFFF#32, 0x0F0#32)
  | .storeSvr _ _ => (.mmioW, 0xFFF#32, 0x0F0#32)
  | .loadEsr _ => (.mmioR, 0xFFF#32, 0x280#32)
  | .storeEsr _ _ => (.mmioW, 0xFFF#32, 0x280#32)
  | .loadLvtTimer _ => (.mmioR, 0xFFF#32, 0x320#32)
  | .storeLvtTimer _ _ => (.mmioW, 0xFFF#32, 0x320#32)
  | .loadLvtThermal _ => (.mmioR, 0xFFF#32, 0x330#32)
  | .storeLvtThermal _ _ => (.mmioW, 0xFFF#32, 0x330#32)
  | .loadLvtPmr _ => (.mmioR, 0xFFF#32, 0x340#32)
  | .storeLvtPmr _ _ => (.mmioW, 0xFFF#32, 0x340#32)
  | .loadLvtLint0 _ => (.mmioR, 0xFFF#32, 0x350#32)
  | .storeLvtLint0 _ _ => (.mmioW, 0xFFF#32, 0x350#32)
  | .loadLvtLint1 _ => (.mmioR, 0xFFF#32, 0x360#32)
  | .storeLvtLint1 _ _ => (.mmioW, 0xFFF#32, 0x360#32)
  | .loadLvtError _ => (.mmioR, 0xFFF#32, 0x370#32)
  | .storeLvtError _ _ => (.mmioW, 0xFFF#32, 0x370#32)
  | .loadTimerIcr _ => (.mmioR, 0xFFF#32, 0x380#32)
  | .storeTimerIcr _ _ => (.mmioW, 0xFFF#32, 0x380#32)
  | .loadTimerCcr _ => (.mmioR, 0xFFF#32, 0x390#32)
  | .storeTimerCcr _ _ => (.mmioW, 0xFFF#32, 0x390#32)
  | .loadTimerDcr _ => (.mmioR, 0xFFF#32, 0x3E0#32)
  | .storeTimerDcr _ _ => (.mmioW, 0xFFF#32, 0x3E0#32)
  | .loadIsrk _ _ => (.mmioR, 0xF8F#32, 0x100#32)
  | .storeIsrk _ _ _ => (.mmioW, 0xF8F#32, 0x100#32)
  | .loadTmrk _ _ => (.mmioR, 0xF8F#32, 0x180#32)
  | .storeTmrk _ _ _ => (.mmioW, 0xF8F#32, 0x180#32)
  | .loadIrrk _ _ => (.mmioR, 0xF8F#32, 0x200#32)
  | .storeIrrk _ _ _ => (.mmioW, 0xF8F#32, 0x200#32)
  | .loadIcrLo _ => (.mmioR, 0xFFF#32, 0x300#32)
  | .storeIcrLo _ _ => (.mmioW, 0xFFF#32, 0x300#32)
  | .loadIcrHi _ => (.mmioR, 0xFFF#32, 0x310#32)
  | .storeIcrHi _ _ => (.mmioW, 0xFFF#32, 0x310#32)
  | .loadReserved _ _ => (.mmioR, 0x00F#32, 0x000#32)
  | .storeReserved _ _ _ => (.mmioW, 0x00F#32, 0x000#32)
  | .cpuid01h _ => (.cpuid, 0xFFFFFFFF#32, 0x00000001#32)
  | .cpuid0bh _ => (.cpuid, 0xFFFFFFFF#32, 0x0000000B#32)
  | .x86Rdmsr => (.x86, 0xFFFF#32, 0x0F32#32)
  | .x86Wrmsr => (.x86, 0xFFFF#32, 0x0F30#32)
  | .x86Cpuid => (.x86, 0xFFFF#32, 0x0FA2#32)

/-- The offset bits of a slot of a page. -/
theorem mmio_offset_append (page : PageNo) (slot : Byte) :
    (page ++ (slot ++ 0#4)).extractLsb' 0 12 = slot ++ 0#4 := by
  apply BitVec.eq_of_getLsbD_eq
  intro i hi
  rw [BitVec.getLsbD_extractLsb', BitVec.getLsbD_append]
  simp [hi]

theorem addressBits_load (page : PageNo) (slot : Byte) :
    addressBits (loadOf page slot) = (slot ++ 0#4).setWidth 32 := by
  simp only [addressBits, loadOf, mmio_offset_append]

theorem addressBits_store (page : PageNo) (slot : Byte) (val : W32) :
    addressBits (storeOf page slot val) = (slot ++ 0#4).setWidth 32 := by
  simp only [addressBits, storeOf, mmio_offset_append]

namespace EncodingInRow

/-- The access of a well-formed operation is in its row. -/
def Statement (i : Instr) : Prop :=
  i.wf = true → formatOf (encode i) = (rowOf i).1 ∧ addressBits (encode i) &&& (rowOf i).2.1 = (rowOf i).2.2

/-- Every MSR offset is in the default rows' address range. -/
theorem msr_default (off : BitVec 10) : (2#22 ++ off : W32) &&& 0xFFFFFC00#32 = 0x800#32 := by
  rw [show (0xFFFFFC00#32 : W32) = BitVec.allOnes 22 ++ 0#10 by decide,
    show (0x800#32 : W32) = 2#22 ++ 0#10 by decide]
  apply BitVec.eq_of_getLsbD_eq
  intro i hi
  rw [BitVec.getLsbD_and, BitVec.getLsbD_append, BitVec.getLsbD_append, BitVec.getLsbD_append]
  by_cases h : i < 10
  · simp [h]
  · have h22 : i - 10 < 22 := by omega
    simp only [h, BitVec.getLsbD_allOnes, h22, decide_true, Bool.and_true, if_false]

theorem msr_isr (k : BitVec 3) : (2#22 ++ (2#7 ++ k) : W32) &&& 0xFFFFFFF8#32 = 0x810#32 := by
  revert k
  decide

theorem msr_tmr (k : BitVec 3) : (2#22 ++ (3#7 ++ k) : W32) &&& 0xFFFFFFF8#32 = 0x818#32 := by
  revert k
  decide

theorem msr_irr (k : BitVec 3) : (2#22 ++ (4#7 ++ k) : W32) &&& 0xFFFFFFF8#32 = 0x820#32 := by
  revert k
  decide

theorem mmio_isr (k : BitVec 3) :
    (((2#5 ++ k : Byte) ++ 0#4).setWidth 32 : W32) &&& 0xF8F#32 = 0x100#32 := by
  revert k
  decide

theorem mmio_tmr (k : BitVec 3) :
    (((3#5 ++ k : Byte) ++ 0#4).setWidth 32 : W32) &&& 0xF8F#32 = 0x180#32 := by
  revert k
  decide

theorem mmio_irr (k : BitVec 3) :
    (((4#5 ++ k : Byte) ++ 0#4).setWidth 32 : W32) &&& 0xF8F#32 = 0x200#32 := by
  revert k
  decide

/-- Every slot is in the default MMIO rows' offset range. -/
theorem mmio_default (slot : Byte) : (slot ++ 0#4).setWidth 32 &&& 0x00F#32 = 0x000#32 := by
  apply BitVec.eq_of_getLsbD_eq
  intro i hi
  by_cases h : i < 4
  · rw [BitVec.getLsbD_and, BitVec.getLsbD_setWidth, BitVec.getLsbD_append]
    simp [h]
  · rw [BitVec.getLsbD_and, show (0x00F#32 : W32) = BitVec.ofNat 32 (2 ^ 4 - 1) by decide, BitVec.getLsbD_ofNat,
      Nat.testBit_two_pow_sub_one]
    simp [h]

theorem rdmsrIa32ApicBase : Statement .rdmsrIa32ApicBase :=
  fun _ => ⟨rfl, (by decide : (0x1B#32 &&& 0xFFFFFFFF#32 : W32) = 0x0000001B#32)⟩

theorem wrmsrIa32ApicBase (val : W64) : Statement (.wrmsrIa32ApicBase val) :=
  fun _ => ⟨rfl, (by decide : (0x1B#32 &&& 0xFFFFFFFF#32 : W32) = 0x0000001B#32)⟩

theorem rdmsrId : Statement .rdmsrId :=
  fun _ => ⟨rfl, (by decide : ((2#22 ++ 0x2#10) &&& 0xFFFFFFFF#32 : W32) = 0x00000802#32)⟩

theorem wrmsrId (val : W64) : Statement (.wrmsrId val) :=
  fun _ => ⟨rfl, (by decide : ((2#22 ++ 0x2#10) &&& 0xFFFFFFFF#32 : W32) = 0x00000802#32)⟩

theorem rdmsrVer : Statement .rdmsrVer :=
  fun _ => ⟨rfl, (by decide : ((2#22 ++ 0x3#10) &&& 0xFFFFFFFF#32 : W32) = 0x00000803#32)⟩

theorem wrmsrVer (val : W64) : Statement (.wrmsrVer val) :=
  fun _ => ⟨rfl, (by decide : ((2#22 ++ 0x3#10) &&& 0xFFFFFFFF#32 : W32) = 0x00000803#32)⟩

theorem rdmsrTpr : Statement .rdmsrTpr :=
  fun _ => ⟨rfl, (by decide : ((2#22 ++ 0x8#10) &&& 0xFFFFFFFF#32 : W32) = 0x00000808#32)⟩

theorem wrmsrTpr (val : W64) : Statement (.wrmsrTpr val) :=
  fun _ => ⟨rfl, (by decide : ((2#22 ++ 0x8#10) &&& 0xFFFFFFFF#32 : W32) = 0x00000808#32)⟩

theorem rdmsrPpr : Statement .rdmsrPpr :=
  fun _ => ⟨rfl, (by decide : ((2#22 ++ 0xa#10) &&& 0xFFFFFFFF#32 : W32) = 0x0000080A#32)⟩

theorem wrmsrPpr (val : W64) : Statement (.wrmsrPpr val) :=
  fun _ => ⟨rfl, (by decide : ((2#22 ++ 0xa#10) &&& 0xFFFFFFFF#32 : W32) = 0x0000080A#32)⟩

theorem rdmsrEoi : Statement .rdmsrEoi :=
  fun _ => ⟨rfl, (by decide : ((2#22 ++ 0xb#10) &&& 0xFFFFFFFF#32 : W32) = 0x0000080B#32)⟩

theorem wrmsrEoi (val : W64) : Statement (.wrmsrEoi val) :=
  fun _ => ⟨rfl, (by decide : ((2#22 ++ 0xb#10) &&& 0xFFFFFFFF#32 : W32) = 0x0000080B#32)⟩

theorem rdmsrLdr : Statement .rdmsrLdr :=
  fun _ => ⟨rfl, (by decide : ((2#22 ++ 0xd#10) &&& 0xFFFFFFFF#32 : W32) = 0x0000080D#32)⟩

theorem wrmsrLdr (val : W64) : Statement (.wrmsrLdr val) :=
  fun _ => ⟨rfl, (by decide : ((2#22 ++ 0xd#10) &&& 0xFFFFFFFF#32 : W32) = 0x0000080D#32)⟩

theorem rdmsrSvr : Statement .rdmsrSvr :=
  fun _ => ⟨rfl, (by decide : ((2#22 ++ 0xf#10) &&& 0xFFFFFFFF#32 : W32) = 0x0000080F#32)⟩

theorem wrmsrSvr (val : W64) : Statement (.wrmsrSvr val) :=
  fun _ => ⟨rfl, (by decide : ((2#22 ++ 0xf#10) &&& 0xFFFFFFFF#32 : W32) = 0x0000080F#32)⟩

theorem rdmsrEsr : Statement .rdmsrEsr :=
  fun _ => ⟨rfl, (by decide : ((2#22 ++ 0x28#10) &&& 0xFFFFFFFF#32 : W32) = 0x00000828#32)⟩

theorem wrmsrEsr (val : W64) : Statement (.wrmsrEsr val) :=
  fun _ => ⟨rfl, (by decide : ((2#22 ++ 0x28#10) &&& 0xFFFFFFFF#32 : W32) = 0x00000828#32)⟩

theorem rdmsrIcr : Statement .rdmsrIcr :=
  fun _ => ⟨rfl, (by decide : ((2#22 ++ 0x30#10) &&& 0xFFFFFFFF#32 : W32) = 0x00000830#32)⟩

theorem wrmsrIcr (val : W64) : Statement (.wrmsrIcr val) :=
  fun _ => ⟨rfl, (by decide : ((2#22 ++ 0x30#10) &&& 0xFFFFFFFF#32 : W32) = 0x00000830#32)⟩

theorem rdmsrLvtTimer : Statement .rdmsrLvtTimer :=
  fun _ => ⟨rfl, (by decide : ((2#22 ++ 0x32#10) &&& 0xFFFFFFFF#32 : W32) = 0x00000832#32)⟩

theorem wrmsrLvtTimer (val : W64) : Statement (.wrmsrLvtTimer val) :=
  fun _ => ⟨rfl, (by decide : ((2#22 ++ 0x32#10) &&& 0xFFFFFFFF#32 : W32) = 0x00000832#32)⟩

theorem rdmsrLvtThermal : Statement .rdmsrLvtThermal :=
  fun _ => ⟨rfl, (by decide : ((2#22 ++ 0x33#10) &&& 0xFFFFFFFF#32 : W32) = 0x00000833#32)⟩

theorem wrmsrLvtThermal (val : W64) : Statement (.wrmsrLvtThermal val) :=
  fun _ => ⟨rfl, (by decide : ((2#22 ++ 0x33#10) &&& 0xFFFFFFFF#32 : W32) = 0x00000833#32)⟩

theorem rdmsrLvtPmr : Statement .rdmsrLvtPmr :=
  fun _ => ⟨rfl, (by decide : ((2#22 ++ 0x34#10) &&& 0xFFFFFFFF#32 : W32) = 0x00000834#32)⟩

theorem wrmsrLvtPmr (val : W64) : Statement (.wrmsrLvtPmr val) :=
  fun _ => ⟨rfl, (by decide : ((2#22 ++ 0x34#10) &&& 0xFFFFFFFF#32 : W32) = 0x00000834#32)⟩

theorem rdmsrLvtLint0 : Statement .rdmsrLvtLint0 :=
  fun _ => ⟨rfl, (by decide : ((2#22 ++ 0x35#10) &&& 0xFFFFFFFF#32 : W32) = 0x00000835#32)⟩

theorem wrmsrLvtLint0 (val : W64) : Statement (.wrmsrLvtLint0 val) :=
  fun _ => ⟨rfl, (by decide : ((2#22 ++ 0x35#10) &&& 0xFFFFFFFF#32 : W32) = 0x00000835#32)⟩

theorem rdmsrLvtLint1 : Statement .rdmsrLvtLint1 :=
  fun _ => ⟨rfl, (by decide : ((2#22 ++ 0x36#10) &&& 0xFFFFFFFF#32 : W32) = 0x00000836#32)⟩

theorem wrmsrLvtLint1 (val : W64) : Statement (.wrmsrLvtLint1 val) :=
  fun _ => ⟨rfl, (by decide : ((2#22 ++ 0x36#10) &&& 0xFFFFFFFF#32 : W32) = 0x00000836#32)⟩

theorem rdmsrLvtError : Statement .rdmsrLvtError :=
  fun _ => ⟨rfl, (by decide : ((2#22 ++ 0x37#10) &&& 0xFFFFFFFF#32 : W32) = 0x00000837#32)⟩

theorem wrmsrLvtError (val : W64) : Statement (.wrmsrLvtError val) :=
  fun _ => ⟨rfl, (by decide : ((2#22 ++ 0x37#10) &&& 0xFFFFFFFF#32 : W32) = 0x00000837#32)⟩

theorem rdmsrTimerIcr : Statement .rdmsrTimerIcr :=
  fun _ => ⟨rfl, (by decide : ((2#22 ++ 0x38#10) &&& 0xFFFFFFFF#32 : W32) = 0x00000838#32)⟩

theorem wrmsrTimerIcr (val : W64) : Statement (.wrmsrTimerIcr val) :=
  fun _ => ⟨rfl, (by decide : ((2#22 ++ 0x38#10) &&& 0xFFFFFFFF#32 : W32) = 0x00000838#32)⟩

theorem rdmsrTimerCcr : Statement .rdmsrTimerCcr :=
  fun _ => ⟨rfl, (by decide : ((2#22 ++ 0x39#10) &&& 0xFFFFFFFF#32 : W32) = 0x00000839#32)⟩

theorem wrmsrTimerCcr (val : W64) : Statement (.wrmsrTimerCcr val) :=
  fun _ => ⟨rfl, (by decide : ((2#22 ++ 0x39#10) &&& 0xFFFFFFFF#32 : W32) = 0x00000839#32)⟩

theorem rdmsrTimerDcr : Statement .rdmsrTimerDcr :=
  fun _ => ⟨rfl, (by decide : ((2#22 ++ 0x3e#10) &&& 0xFFFFFFFF#32 : W32) = 0x0000083E#32)⟩

theorem wrmsrTimerDcr (val : W64) : Statement (.wrmsrTimerDcr val) :=
  fun _ => ⟨rfl, (by decide : ((2#22 ++ 0x3e#10) &&& 0xFFFFFFFF#32 : W32) = 0x0000083E#32)⟩

theorem rdmsrSelfIpi : Statement .rdmsrSelfIpi :=
  fun _ => ⟨rfl, (by decide : ((2#22 ++ 0x3f#10) &&& 0xFFFFFFFF#32 : W32) = 0x0000083F#32)⟩

theorem wrmsrSelfIpi (val : W64) : Statement (.wrmsrSelfIpi val) :=
  fun _ => ⟨rfl, (by decide : ((2#22 ++ 0x3f#10) &&& 0xFFFFFFFF#32 : W32) = 0x0000083F#32)⟩

theorem rdmsrIsrk (k : BitVec 3) : Statement (.rdmsrIsrk k) := fun _ => ⟨rfl, msr_isr k⟩

theorem wrmsrIsrk (k : BitVec 3) (val : W64) : Statement (.wrmsrIsrk k val) := fun _ => ⟨rfl, msr_isr k⟩

theorem rdmsrTmrk (k : BitVec 3) : Statement (.rdmsrTmrk k) := fun _ => ⟨rfl, msr_tmr k⟩

theorem wrmsrTmrk (k : BitVec 3) (val : W64) : Statement (.wrmsrTmrk k val) := fun _ => ⟨rfl, msr_tmr k⟩

theorem rdmsrIrrk (k : BitVec 3) : Statement (.rdmsrIrrk k) := fun _ => ⟨rfl, msr_irr k⟩

theorem wrmsrIrrk (k : BitVec 3) (val : W64) : Statement (.wrmsrIrrk k val) := fun _ => ⟨rfl, msr_irr k⟩

theorem rdmsrReserved800 : Statement .rdmsrReserved800 :=
  fun _ => ⟨rfl, (by decide : ((2#22 ++ 0x0#10) &&& 0xFFFFFFFF#32 : W32) = 0x00000800#32)⟩

theorem wrmsrReserved800 (val : W64) : Statement (.wrmsrReserved800 val) :=
  fun _ => ⟨rfl, (by decide : ((2#22 ++ 0x0#10) &&& 0xFFFFFFFF#32 : W32) = 0x00000800#32)⟩

theorem rdmsrReserved801 : Statement .rdmsrReserved801 :=
  fun _ => ⟨rfl, (by decide : ((2#22 ++ 0x1#10) &&& 0xFFFFFFFF#32 : W32) = 0x00000801#32)⟩

theorem wrmsrReserved801 (val : W64) : Statement (.wrmsrReserved801 val) :=
  fun _ => ⟨rfl, (by decide : ((2#22 ++ 0x1#10) &&& 0xFFFFFFFF#32 : W32) = 0x00000801#32)⟩

theorem rdmsrReserved804 : Statement .rdmsrReserved804 :=
  fun _ => ⟨rfl, (by decide : ((2#22 ++ 0x4#10) &&& 0xFFFFFFFF#32 : W32) = 0x00000804#32)⟩

theorem wrmsrReserved804 (val : W64) : Statement (.wrmsrReserved804 val) :=
  fun _ => ⟨rfl, (by decide : ((2#22 ++ 0x4#10) &&& 0xFFFFFFFF#32 : W32) = 0x00000804#32)⟩

theorem rdmsrReserved805 : Statement .rdmsrReserved805 :=
  fun _ => ⟨rfl, (by decide : ((2#22 ++ 0x5#10) &&& 0xFFFFFFFF#32 : W32) = 0x00000805#32)⟩

theorem wrmsrReserved805 (val : W64) : Statement (.wrmsrReserved805 val) :=
  fun _ => ⟨rfl, (by decide : ((2#22 ++ 0x5#10) &&& 0xFFFFFFFF#32 : W32) = 0x00000805#32)⟩

theorem rdmsrReserved806 : Statement .rdmsrReserved806 :=
  fun _ => ⟨rfl, (by decide : ((2#22 ++ 0x6#10) &&& 0xFFFFFFFF#32 : W32) = 0x00000806#32)⟩

theorem wrmsrReserved806 (val : W64) : Statement (.wrmsrReserved806 val) :=
  fun _ => ⟨rfl, (by decide : ((2#22 ++ 0x6#10) &&& 0xFFFFFFFF#32 : W32) = 0x00000806#32)⟩

theorem rdmsrReserved807 : Statement .rdmsrReserved807 :=
  fun _ => ⟨rfl, (by decide : ((2#22 ++ 0x7#10) &&& 0xFFFFFFFF#32 : W32) = 0x00000807#32)⟩

theorem wrmsrReserved807 (val : W64) : Statement (.wrmsrReserved807 val) :=
  fun _ => ⟨rfl, (by decide : ((2#22 ++ 0x7#10) &&& 0xFFFFFFFF#32 : W32) = 0x00000807#32)⟩

theorem rdmsrReserved809 : Statement .rdmsrReserved809 :=
  fun _ => ⟨rfl, (by decide : ((2#22 ++ 0x9#10) &&& 0xFFFFFFFF#32 : W32) = 0x00000809#32)⟩

theorem wrmsrReserved809 (val : W64) : Statement (.wrmsrReserved809 val) :=
  fun _ => ⟨rfl, (by decide : ((2#22 ++ 0x9#10) &&& 0xFFFFFFFF#32 : W32) = 0x00000809#32)⟩

theorem rdmsrReserved80C : Statement .rdmsrReserved80C :=
  fun _ => ⟨rfl, (by decide : ((2#22 ++ 0xc#10) &&& 0xFFFFFFFF#32 : W32) = 0x0000080C#32)⟩

theorem wrmsrReserved80C (val : W64) : Statement (.wrmsrReserved80C val) :=
  fun _ => ⟨rfl, (by decide : ((2#22 ++ 0xc#10) &&& 0xFFFFFFFF#32 : W32) = 0x0000080C#32)⟩

theorem rdmsrReserved80E : Statement .rdmsrReserved80E :=
  fun _ => ⟨rfl, (by decide : ((2#22 ++ 0xe#10) &&& 0xFFFFFFFF#32 : W32) = 0x0000080E#32)⟩

theorem wrmsrReserved80E (val : W64) : Statement (.wrmsrReserved80E val) :=
  fun _ => ⟨rfl, (by decide : ((2#22 ++ 0xe#10) &&& 0xFFFFFFFF#32 : W32) = 0x0000080E#32)⟩

theorem rdmsrReserved829 : Statement .rdmsrReserved829 :=
  fun _ => ⟨rfl, (by decide : ((2#22 ++ 0x29#10) &&& 0xFFFFFFFF#32 : W32) = 0x00000829#32)⟩

theorem wrmsrReserved829 (val : W64) : Statement (.wrmsrReserved829 val) :=
  fun _ => ⟨rfl, (by decide : ((2#22 ++ 0x29#10) &&& 0xFFFFFFFF#32 : W32) = 0x00000829#32)⟩

theorem rdmsrReserved82A : Statement .rdmsrReserved82A :=
  fun _ => ⟨rfl, (by decide : ((2#22 ++ 0x2a#10) &&& 0xFFFFFFFF#32 : W32) = 0x0000082A#32)⟩

theorem wrmsrReserved82A (val : W64) : Statement (.wrmsrReserved82A val) :=
  fun _ => ⟨rfl, (by decide : ((2#22 ++ 0x2a#10) &&& 0xFFFFFFFF#32 : W32) = 0x0000082A#32)⟩

theorem rdmsrReserved82B : Statement .rdmsrReserved82B :=
  fun _ => ⟨rfl, (by decide : ((2#22 ++ 0x2b#10) &&& 0xFFFFFFFF#32 : W32) = 0x0000082B#32)⟩

theorem wrmsrReserved82B (val : W64) : Statement (.wrmsrReserved82B val) :=
  fun _ => ⟨rfl, (by decide : ((2#22 ++ 0x2b#10) &&& 0xFFFFFFFF#32 : W32) = 0x0000082B#32)⟩

theorem rdmsrReserved82C : Statement .rdmsrReserved82C :=
  fun _ => ⟨rfl, (by decide : ((2#22 ++ 0x2c#10) &&& 0xFFFFFFFF#32 : W32) = 0x0000082C#32)⟩

theorem wrmsrReserved82C (val : W64) : Statement (.wrmsrReserved82C val) :=
  fun _ => ⟨rfl, (by decide : ((2#22 ++ 0x2c#10) &&& 0xFFFFFFFF#32 : W32) = 0x0000082C#32)⟩

theorem rdmsrReserved82D : Statement .rdmsrReserved82D :=
  fun _ => ⟨rfl, (by decide : ((2#22 ++ 0x2d#10) &&& 0xFFFFFFFF#32 : W32) = 0x0000082D#32)⟩

theorem wrmsrReserved82D (val : W64) : Statement (.wrmsrReserved82D val) :=
  fun _ => ⟨rfl, (by decide : ((2#22 ++ 0x2d#10) &&& 0xFFFFFFFF#32 : W32) = 0x0000082D#32)⟩

theorem rdmsrReserved82E : Statement .rdmsrReserved82E :=
  fun _ => ⟨rfl, (by decide : ((2#22 ++ 0x2e#10) &&& 0xFFFFFFFF#32 : W32) = 0x0000082E#32)⟩

theorem wrmsrReserved82E (val : W64) : Statement (.wrmsrReserved82E val) :=
  fun _ => ⟨rfl, (by decide : ((2#22 ++ 0x2e#10) &&& 0xFFFFFFFF#32 : W32) = 0x0000082E#32)⟩

theorem rdmsrReserved82F : Statement .rdmsrReserved82F :=
  fun _ => ⟨rfl, (by decide : ((2#22 ++ 0x2f#10) &&& 0xFFFFFFFF#32 : W32) = 0x0000082F#32)⟩

theorem wrmsrReserved82F (val : W64) : Statement (.wrmsrReserved82F val) :=
  fun _ => ⟨rfl, (by decide : ((2#22 ++ 0x2f#10) &&& 0xFFFFFFFF#32 : W32) = 0x0000082F#32)⟩

theorem rdmsrReserved831 : Statement .rdmsrReserved831 :=
  fun _ => ⟨rfl, (by decide : ((2#22 ++ 0x31#10) &&& 0xFFFFFFFF#32 : W32) = 0x00000831#32)⟩

theorem wrmsrReserved831 (val : W64) : Statement (.wrmsrReserved831 val) :=
  fun _ => ⟨rfl, (by decide : ((2#22 ++ 0x31#10) &&& 0xFFFFFFFF#32 : W32) = 0x00000831#32)⟩

theorem rdmsrReserved83A : Statement .rdmsrReserved83A :=
  fun _ => ⟨rfl, (by decide : ((2#22 ++ 0x3a#10) &&& 0xFFFFFFFF#32 : W32) = 0x0000083A#32)⟩

theorem wrmsrReserved83A (val : W64) : Statement (.wrmsrReserved83A val) :=
  fun _ => ⟨rfl, (by decide : ((2#22 ++ 0x3a#10) &&& 0xFFFFFFFF#32 : W32) = 0x0000083A#32)⟩

theorem rdmsrReserved83B : Statement .rdmsrReserved83B :=
  fun _ => ⟨rfl, (by decide : ((2#22 ++ 0x3b#10) &&& 0xFFFFFFFF#32 : W32) = 0x0000083B#32)⟩

theorem wrmsrReserved83B (val : W64) : Statement (.wrmsrReserved83B val) :=
  fun _ => ⟨rfl, (by decide : ((2#22 ++ 0x3b#10) &&& 0xFFFFFFFF#32 : W32) = 0x0000083B#32)⟩

theorem rdmsrReserved83C : Statement .rdmsrReserved83C :=
  fun _ => ⟨rfl, (by decide : ((2#22 ++ 0x3c#10) &&& 0xFFFFFFFF#32 : W32) = 0x0000083C#32)⟩

theorem wrmsrReserved83C (val : W64) : Statement (.wrmsrReserved83C val) :=
  fun _ => ⟨rfl, (by decide : ((2#22 ++ 0x3c#10) &&& 0xFFFFFFFF#32 : W32) = 0x0000083C#32)⟩

theorem rdmsrReserved83D : Statement .rdmsrReserved83D :=
  fun _ => ⟨rfl, (by decide : ((2#22 ++ 0x3d#10) &&& 0xFFFFFFFF#32 : W32) = 0x0000083D#32)⟩

theorem wrmsrReserved83D (val : W64) : Statement (.wrmsrReserved83D val) :=
  fun _ => ⟨rfl, (by decide : ((2#22 ++ 0x3d#10) &&& 0xFFFFFFFF#32 : W32) = 0x0000083D#32)⟩

theorem rdmsrReserved (off : BitVec 10) : Statement (.rdmsrReserved off) := fun _ => ⟨rfl, msr_default off⟩

theorem wrmsrReserved (off : BitVec 10) (val : W64) : Statement (.wrmsrReserved off val) :=
  fun _ => ⟨rfl, msr_default off⟩

theorem loadId (page : PageNo) : Statement (.loadId page) :=
  fun _ => ⟨rfl, by
    rw [encode, addressBits_load]
    exact (by decide : ((0x2#8 ++ 0#4).setWidth 32 &&& 0xFFF#32 : W32) = 0x020#32)⟩

theorem storeId (page : PageNo) (val : W32) : Statement (.storeId page val) :=
  fun _ => ⟨rfl, by
    rw [encode, addressBits_store]
    exact (by decide : ((0x2#8 ++ 0#4).setWidth 32 &&& 0xFFF#32 : W32) = 0x020#32)⟩

theorem loadVer (page : PageNo) : Statement (.loadVer page) :=
  fun _ => ⟨rfl, by
    rw [encode, addressBits_load]
    exact (by decide : ((0x3#8 ++ 0#4).setWidth 32 &&& 0xFFF#32 : W32) = 0x030#32)⟩

theorem storeVer (page : PageNo) (val : W32) : Statement (.storeVer page val) :=
  fun _ => ⟨rfl, by
    rw [encode, addressBits_store]
    exact (by decide : ((0x3#8 ++ 0#4).setWidth 32 &&& 0xFFF#32 : W32) = 0x030#32)⟩

theorem loadTpr (page : PageNo) : Statement (.loadTpr page) :=
  fun _ => ⟨rfl, by
    rw [encode, addressBits_load]
    exact (by decide : ((0x8#8 ++ 0#4).setWidth 32 &&& 0xFFF#32 : W32) = 0x080#32)⟩

theorem storeTpr (page : PageNo) (val : W32) : Statement (.storeTpr page val) :=
  fun _ => ⟨rfl, by
    rw [encode, addressBits_store]
    exact (by decide : ((0x8#8 ++ 0#4).setWidth 32 &&& 0xFFF#32 : W32) = 0x080#32)⟩

theorem loadApr (page : PageNo) : Statement (.loadApr page) :=
  fun _ => ⟨rfl, by
    rw [encode, addressBits_load]
    exact (by decide : ((0x9#8 ++ 0#4).setWidth 32 &&& 0xFFF#32 : W32) = 0x090#32)⟩

theorem storeApr (page : PageNo) (val : W32) : Statement (.storeApr page val) :=
  fun _ => ⟨rfl, by
    rw [encode, addressBits_store]
    exact (by decide : ((0x9#8 ++ 0#4).setWidth 32 &&& 0xFFF#32 : W32) = 0x090#32)⟩

theorem loadPpr (page : PageNo) : Statement (.loadPpr page) :=
  fun _ => ⟨rfl, by
    rw [encode, addressBits_load]
    exact (by decide : ((0xa#8 ++ 0#4).setWidth 32 &&& 0xFFF#32 : W32) = 0x0A0#32)⟩

theorem storePpr (page : PageNo) (val : W32) : Statement (.storePpr page val) :=
  fun _ => ⟨rfl, by
    rw [encode, addressBits_store]
    exact (by decide : ((0xa#8 ++ 0#4).setWidth 32 &&& 0xFFF#32 : W32) = 0x0A0#32)⟩

theorem loadEoi (page : PageNo) : Statement (.loadEoi page) :=
  fun _ => ⟨rfl, by
    rw [encode, addressBits_load]
    exact (by decide : ((0xb#8 ++ 0#4).setWidth 32 &&& 0xFFF#32 : W32) = 0x0B0#32)⟩

theorem storeEoi (page : PageNo) (val : W32) : Statement (.storeEoi page val) :=
  fun _ => ⟨rfl, by
    rw [encode, addressBits_store]
    exact (by decide : ((0xb#8 ++ 0#4).setWidth 32 &&& 0xFFF#32 : W32) = 0x0B0#32)⟩

theorem loadRrr (page : PageNo) : Statement (.loadRrr page) :=
  fun _ => ⟨rfl, by
    rw [encode, addressBits_load]
    exact (by decide : ((0xc#8 ++ 0#4).setWidth 32 &&& 0xFFF#32 : W32) = 0x0C0#32)⟩

theorem storeRrr (page : PageNo) (val : W32) : Statement (.storeRrr page val) :=
  fun _ => ⟨rfl, by
    rw [encode, addressBits_store]
    exact (by decide : ((0xc#8 ++ 0#4).setWidth 32 &&& 0xFFF#32 : W32) = 0x0C0#32)⟩

theorem loadLdr (page : PageNo) : Statement (.loadLdr page) :=
  fun _ => ⟨rfl, by
    rw [encode, addressBits_load]
    exact (by decide : ((0xd#8 ++ 0#4).setWidth 32 &&& 0xFFF#32 : W32) = 0x0D0#32)⟩

theorem storeLdr (page : PageNo) (val : W32) : Statement (.storeLdr page val) :=
  fun _ => ⟨rfl, by
    rw [encode, addressBits_store]
    exact (by decide : ((0xd#8 ++ 0#4).setWidth 32 &&& 0xFFF#32 : W32) = 0x0D0#32)⟩

theorem loadDfr (page : PageNo) : Statement (.loadDfr page) :=
  fun _ => ⟨rfl, by
    rw [encode, addressBits_load]
    exact (by decide : ((0xe#8 ++ 0#4).setWidth 32 &&& 0xFFF#32 : W32) = 0x0E0#32)⟩

theorem storeDfr (page : PageNo) (val : W32) : Statement (.storeDfr page val) :=
  fun _ => ⟨rfl, by
    rw [encode, addressBits_store]
    exact (by decide : ((0xe#8 ++ 0#4).setWidth 32 &&& 0xFFF#32 : W32) = 0x0E0#32)⟩

theorem loadSvr (page : PageNo) : Statement (.loadSvr page) :=
  fun _ => ⟨rfl, by
    rw [encode, addressBits_load]
    exact (by decide : ((0xf#8 ++ 0#4).setWidth 32 &&& 0xFFF#32 : W32) = 0x0F0#32)⟩

theorem storeSvr (page : PageNo) (val : W32) : Statement (.storeSvr page val) :=
  fun _ => ⟨rfl, by
    rw [encode, addressBits_store]
    exact (by decide : ((0xf#8 ++ 0#4).setWidth 32 &&& 0xFFF#32 : W32) = 0x0F0#32)⟩

theorem loadEsr (page : PageNo) : Statement (.loadEsr page) :=
  fun _ => ⟨rfl, by
    rw [encode, addressBits_load]
    exact (by decide : ((0x28#8 ++ 0#4).setWidth 32 &&& 0xFFF#32 : W32) = 0x280#32)⟩

theorem storeEsr (page : PageNo) (val : W32) : Statement (.storeEsr page val) :=
  fun _ => ⟨rfl, by
    rw [encode, addressBits_store]
    exact (by decide : ((0x28#8 ++ 0#4).setWidth 32 &&& 0xFFF#32 : W32) = 0x280#32)⟩

theorem loadLvtTimer (page : PageNo) : Statement (.loadLvtTimer page) :=
  fun _ => ⟨rfl, by
    rw [encode, addressBits_load]
    exact (by decide : ((0x32#8 ++ 0#4).setWidth 32 &&& 0xFFF#32 : W32) = 0x320#32)⟩

theorem storeLvtTimer (page : PageNo) (val : W32) : Statement (.storeLvtTimer page val) :=
  fun _ => ⟨rfl, by
    rw [encode, addressBits_store]
    exact (by decide : ((0x32#8 ++ 0#4).setWidth 32 &&& 0xFFF#32 : W32) = 0x320#32)⟩

theorem loadLvtThermal (page : PageNo) : Statement (.loadLvtThermal page) :=
  fun _ => ⟨rfl, by
    rw [encode, addressBits_load]
    exact (by decide : ((0x33#8 ++ 0#4).setWidth 32 &&& 0xFFF#32 : W32) = 0x330#32)⟩

theorem storeLvtThermal (page : PageNo) (val : W32) : Statement (.storeLvtThermal page val) :=
  fun _ => ⟨rfl, by
    rw [encode, addressBits_store]
    exact (by decide : ((0x33#8 ++ 0#4).setWidth 32 &&& 0xFFF#32 : W32) = 0x330#32)⟩

theorem loadLvtPmr (page : PageNo) : Statement (.loadLvtPmr page) :=
  fun _ => ⟨rfl, by
    rw [encode, addressBits_load]
    exact (by decide : ((0x34#8 ++ 0#4).setWidth 32 &&& 0xFFF#32 : W32) = 0x340#32)⟩

theorem storeLvtPmr (page : PageNo) (val : W32) : Statement (.storeLvtPmr page val) :=
  fun _ => ⟨rfl, by
    rw [encode, addressBits_store]
    exact (by decide : ((0x34#8 ++ 0#4).setWidth 32 &&& 0xFFF#32 : W32) = 0x340#32)⟩

theorem loadLvtLint0 (page : PageNo) : Statement (.loadLvtLint0 page) :=
  fun _ => ⟨rfl, by
    rw [encode, addressBits_load]
    exact (by decide : ((0x35#8 ++ 0#4).setWidth 32 &&& 0xFFF#32 : W32) = 0x350#32)⟩

theorem storeLvtLint0 (page : PageNo) (val : W32) : Statement (.storeLvtLint0 page val) :=
  fun _ => ⟨rfl, by
    rw [encode, addressBits_store]
    exact (by decide : ((0x35#8 ++ 0#4).setWidth 32 &&& 0xFFF#32 : W32) = 0x350#32)⟩

theorem loadLvtLint1 (page : PageNo) : Statement (.loadLvtLint1 page) :=
  fun _ => ⟨rfl, by
    rw [encode, addressBits_load]
    exact (by decide : ((0x36#8 ++ 0#4).setWidth 32 &&& 0xFFF#32 : W32) = 0x360#32)⟩

theorem storeLvtLint1 (page : PageNo) (val : W32) : Statement (.storeLvtLint1 page val) :=
  fun _ => ⟨rfl, by
    rw [encode, addressBits_store]
    exact (by decide : ((0x36#8 ++ 0#4).setWidth 32 &&& 0xFFF#32 : W32) = 0x360#32)⟩

theorem loadLvtError (page : PageNo) : Statement (.loadLvtError page) :=
  fun _ => ⟨rfl, by
    rw [encode, addressBits_load]
    exact (by decide : ((0x37#8 ++ 0#4).setWidth 32 &&& 0xFFF#32 : W32) = 0x370#32)⟩

theorem storeLvtError (page : PageNo) (val : W32) : Statement (.storeLvtError page val) :=
  fun _ => ⟨rfl, by
    rw [encode, addressBits_store]
    exact (by decide : ((0x37#8 ++ 0#4).setWidth 32 &&& 0xFFF#32 : W32) = 0x370#32)⟩

theorem loadTimerIcr (page : PageNo) : Statement (.loadTimerIcr page) :=
  fun _ => ⟨rfl, by
    rw [encode, addressBits_load]
    exact (by decide : ((0x38#8 ++ 0#4).setWidth 32 &&& 0xFFF#32 : W32) = 0x380#32)⟩

theorem storeTimerIcr (page : PageNo) (val : W32) : Statement (.storeTimerIcr page val) :=
  fun _ => ⟨rfl, by
    rw [encode, addressBits_store]
    exact (by decide : ((0x38#8 ++ 0#4).setWidth 32 &&& 0xFFF#32 : W32) = 0x380#32)⟩

theorem loadTimerCcr (page : PageNo) : Statement (.loadTimerCcr page) :=
  fun _ => ⟨rfl, by
    rw [encode, addressBits_load]
    exact (by decide : ((0x39#8 ++ 0#4).setWidth 32 &&& 0xFFF#32 : W32) = 0x390#32)⟩

theorem storeTimerCcr (page : PageNo) (val : W32) : Statement (.storeTimerCcr page val) :=
  fun _ => ⟨rfl, by
    rw [encode, addressBits_store]
    exact (by decide : ((0x39#8 ++ 0#4).setWidth 32 &&& 0xFFF#32 : W32) = 0x390#32)⟩

theorem loadTimerDcr (page : PageNo) : Statement (.loadTimerDcr page) :=
  fun _ => ⟨rfl, by
    rw [encode, addressBits_load]
    exact (by decide : ((0x3e#8 ++ 0#4).setWidth 32 &&& 0xFFF#32 : W32) = 0x3E0#32)⟩

theorem storeTimerDcr (page : PageNo) (val : W32) : Statement (.storeTimerDcr page val) :=
  fun _ => ⟨rfl, by
    rw [encode, addressBits_store]
    exact (by decide : ((0x3e#8 ++ 0#4).setWidth 32 &&& 0xFFF#32 : W32) = 0x3E0#32)⟩

theorem loadIsrk (page : PageNo) (k : BitVec 3) : Statement (.loadIsrk page k) :=
  fun _ => ⟨rfl, by rw [encode, addressBits_load]; exact mmio_isr k⟩

theorem storeIsrk (page : PageNo) (k : BitVec 3) (val : W32) : Statement (.storeIsrk page k val) :=
  fun _ => ⟨rfl, by rw [encode, addressBits_store]; exact mmio_isr k⟩

theorem loadTmrk (page : PageNo) (k : BitVec 3) : Statement (.loadTmrk page k) :=
  fun _ => ⟨rfl, by rw [encode, addressBits_load]; exact mmio_tmr k⟩

theorem storeTmrk (page : PageNo) (k : BitVec 3) (val : W32) : Statement (.storeTmrk page k val) :=
  fun _ => ⟨rfl, by rw [encode, addressBits_store]; exact mmio_tmr k⟩

theorem loadIrrk (page : PageNo) (k : BitVec 3) : Statement (.loadIrrk page k) :=
  fun _ => ⟨rfl, by rw [encode, addressBits_load]; exact mmio_irr k⟩

theorem storeIrrk (page : PageNo) (k : BitVec 3) (val : W32) : Statement (.storeIrrk page k val) :=
  fun _ => ⟨rfl, by rw [encode, addressBits_store]; exact mmio_irr k⟩

theorem loadIcrLo (page : PageNo) : Statement (.loadIcrLo page) :=
  fun _ => ⟨rfl, by
    rw [encode, addressBits_load]
    exact (by decide : ((0x30#8 ++ 0#4).setWidth 32 &&& 0xFFF#32 : W32) = 0x300#32)⟩

theorem storeIcrLo (page : PageNo) (val : W32) : Statement (.storeIcrLo page val) :=
  fun _ => ⟨rfl, by
    rw [encode, addressBits_store]
    exact (by decide : ((0x30#8 ++ 0#4).setWidth 32 &&& 0xFFF#32 : W32) = 0x300#32)⟩

theorem loadIcrHi (page : PageNo) : Statement (.loadIcrHi page) :=
  fun _ => ⟨rfl, by
    rw [encode, addressBits_load]
    exact (by decide : ((0x31#8 ++ 0#4).setWidth 32 &&& 0xFFF#32 : W32) = 0x310#32)⟩

theorem storeIcrHi (page : PageNo) (val : W32) : Statement (.storeIcrHi page val) :=
  fun _ => ⟨rfl, by
    rw [encode, addressBits_store]
    exact (by decide : ((0x31#8 ++ 0#4).setWidth 32 &&& 0xFFF#32 : W32) = 0x310#32)⟩

theorem loadReserved (page : PageNo) (slot : Byte) : Statement (.loadReserved page slot) :=
  fun _ => ⟨rfl, by rw [encode, addressBits_load]; exact mmio_default slot⟩

theorem storeReserved (page : PageNo) (slot : Byte) (val : W32) : Statement (.storeReserved page slot val) :=
  fun _ => ⟨rfl, by rw [encode, addressBits_store]; exact mmio_default slot⟩

theorem cpuid01h (subleaf : W32) : Statement (.cpuid01h subleaf) :=
  fun _ => ⟨rfl, (by decide : (0x00000001#32 &&& 0xFFFFFFFF#32 : W32) = 0x00000001#32)⟩

theorem cpuid0bh (subleaf : W32) : Statement (.cpuid0bh subleaf) :=
  fun _ => ⟨rfl, (by decide : (0x0000000B#32 &&& 0xFFFFFFFF#32 : W32) = 0x0000000B#32)⟩

theorem x86Rdmsr : Statement .x86Rdmsr := fun _ => ⟨rfl, by decide⟩

theorem x86Wrmsr : Statement .x86Wrmsr := fun _ => ⟨rfl, by decide⟩

theorem x86Cpuid : Statement .x86Cpuid := fun _ => ⟨rfl, by decide⟩

end EncodingInRow

end Sys2Proof.Laws
end

