-- ==== Sys2Proof/Tests/Slice0.lean ====
section
/-! SUPPORT. The model's own tests: ill-formed terms that WellFormed refuses, the words of the map decoded, single steps
with results taken from spec/95_test_vectors.md, and for each statement of Obligations.lean with hypotheses a witness
that meets them. -/

set_option Elab.async false

namespace Sys2Proof.Tests

open Sys2Proof.Machine Sys2Proof.Statements

/-! ### States to test on -/

/-- The parameters of the examples of 95_test_vectors.md sections 2.3 and 2.8, with this x2APIC ID. -/
def params (id : W32) : Params where
  x2apicSupported := true
  x2apicIdHw := id
  idBits := 32
  version := 0x15#8
  maxLvt := 5#8
  directedEoi := true
  hasLvtCmci := false
  rsvd := Config.defaultRsvd
  roBitWrite := .ignore
  maxPhyAddr := 36
  isBsp := true
  logic := .standard
  cpuid0B := [{ number := 0#32, shift := 1#5, count := 2#16, kind := 1#8 },
    { number := 1#32, shift := 4#5, count := 8#16, kind := 2#8 }]

/-- A software-enabled unit after RESET with this x2APIC ID, moved to the state (EN, EXTD). -/
def unit (id : W32) (en extd : Bool) : Apic :=
  { apicAtReset (params id) 0#64 0#64 with
    base := { page := 0xFEE00#52, en := en, extd := extd, bsp := true }
    svr := 0x1FF#32
    ldr := if extd then logicalX2apicId id else 0#32 }

/-- One unit, nothing in flight, nothing scheduled. -/
def alone (u : Apic) : State where
  self := u
  others := []
  inflight := []
  draws := 0
  schedule := []

/-- The unit 125H in x2APIC mode. -/
def x2 : State := alone (unit 0x125#32 true true)

/-- The unit 125H in xAPIC mode. -/
def xa : State := alone (unit 0x125#32 true false)

/-- The unit 125H, Disabled. -/
def off : State := alone (unit 0x125#32 false false)

/-- The platform of 95_test_vectors.md section 2.5: units 0, 1, 10H, 11H in x2APIC mode, the first one acting. -/
def four : State :=
  { x2 with
    self := unit 0x0#32 true true
    others := [unit 0x1#32 true true, unit 0x10#32 true true, unit 0x11#32 true true] }

/-- The state with its acting unit changed. -/
def having (s : State) (f : Apic → Apic) : State := { s with self := f s.self }

/-- The next state's acting unit, or the given one where there is no next state. -/
def unitAfter (o : Outcome) : Option Apic :=
  match o with
  | .next s => some s.self
  | .fault _ => none
  | .refused _ => none

/-- A field of the next state's acting unit. -/
def after {α : Type} (f : Apic → α) (o : Outcome) : Option α := (unitAfter o).map f

/-- What the core was answered. -/
def answer (o : Outcome) : Option Answer := after (fun u => u.core.answer) o

/-- Why an outcome is a fault. -/
def faultOf (o : Outcome) : Option Fault :=
  match o with
  | .next _ => none
  | .fault f => some f
  | .refused _ => none

/-- The targets and vectors of the messages in flight after an outcome. -/
def flight (o : Outcome) : Option (List (W32 × Byte)) :=
  match o with
  | .next s => some (s.inflight.map fun m => (m.dst, m.vec))
  | .fault _ => none
  | .refused _ => none

/-- Why an outcome is a refusal. -/
def refusal (o : Outcome) : Option Refusal :=
  match o with
  | .next _ => none
  | .fault _ => none
  | .refused r => some r

/-- Every access of the list decodes to the operation beside it. -/
def decodesAll (l : List (Access × Instr)) : Bool :=
  l.all fun r => match decode r.1 with
    | .ok i => i == r.2
    | .error _ => false

/-- The list's operations all answer GP(0). -/
def faultsAll (s : State) (l : List Instr) : Bool :=
  l.all fun i => answer (exec i s) == some (.exception 13#8 0#32)

/-! ### WellFormed refuses what is ill formed -/

theorem test_wf_refuses_rdmsr_reserved : (Instr.rdmsrReserved 0x03F#10).wf = false := by decide

theorem test_wf_refuses_wrmsr_reserved : (Instr.wrmsrReserved 0x000#10 0#64).wf = false := by decide

theorem test_wf_refuses_load_reserved :
    ([0x02#8, 0x03#8, 0x08#8, 0x28#8, 0x30#8, 0x39#8, 0x3E#8].any
      fun slot => (Instr.loadReserved 0xFEE00#52 slot).wf) = false := by
  decide

theorem test_wf_refuses_store_reserved :
    ([0x02#8, 0x03#8, 0x08#8, 0x28#8, 0x30#8, 0x39#8, 0x3E#8].any
      fun slot => (Instr.storeReserved 0xFEE00#52 slot 0#32).wf) = false := by
  decide

theorem test_wf_params : (params 0x125#32).wf = true := by decide

theorem test_wf_refuses_few_id_bits : ({ params 0#32 with idBits := 7 } : Params).wf = false := by decide

theorem test_wf_refuses_many_id_bits : ({ params 0#32 with idBits := 33 } : Params).wf = false := by decide

theorem test_wf_refuses_wide_id : ({ params 0x1FF#32 with idBits := 9 } : Params).wf = false := by decide

theorem test_wf_refuses_narrow_address : ({ params 0#32 with maxPhyAddr := 31 } : Params).wf = false := by decide

theorem test_wf_refuses_wide_address : ({ params 0#32 with maxPhyAddr := 65 } : Params).wf = false := by decide

theorem test_wf_refuses_reserved_svr_reset_bit :
    ({ params 0#32 with rsvd := { Config.defaultRsvd with svr := 0xFFFFEE01#32 } } : Params).wf = false := by
  decide

/-- The parameters with these levels: number, shift count, type. -/
def withLevels (ls : List (W32 × BitVec 5 × Byte)) : Params :=
  { params 0#32 with cpuid0B := ls.map fun l => { number := l.1, shift := l.2.1, count := 2#16, kind := l.2.2 } }

theorem test_wf_refuses_level_zero_core : (withLevels [(0#32, 5#5, 2#8)]).wf = false := by decide

theorem test_wf_refuses_invalid_and_reserved_types :
    (withLevels [(0#32, 1#5, 1#8), (1#32, 1#5, 2#8), (2#32, 4#5, 0#8)]).wf = false
    ∧ (withLevels [(0#32, 1#5, 1#8), (1#32, 4#5, 3#8)]).wf = false := by
  decide

theorem test_wf_refuses_falling_shifts : (withLevels [(0#32, 5#5, 1#8), (1#32, 4#5, 2#8)]).wf = false := by decide

theorem test_wf_refuses_one_level_twice : (withLevels [(1#32, 4#5, 2#8), (1#32, 4#5, 2#8)]).wf = false := by decide

theorem test_wf_refuses_narrow_last_level : (withLevels [(0#32, 1#5, 1#8), (1#32, 3#5, 2#8)]).wf = false := by decide

theorem test_wf_admits_missing_levels :
    (withLevels []).wf = true ∧ (withLevels [(1#32, 4#5, 2#8), (7#32, 9#5, 2#8)]).wf = true := by
  decide

/-! ### Every row's words decode to it (the words from the rows of spec/opcode_table.json) -/

theorem test_decode_rdmsr_part1 : decodesAll
    [ (.msrR 0x0000001B#32, .rdmsrIa32ApicBase),
      (.msrR 0x00000802#32, .rdmsrId),
      (.msrR 0x00000803#32, .rdmsrVer),
      (.msrR 0x00000808#32, .rdmsrTpr),
      (.msrR 0x0000080A#32, .rdmsrPpr),
      (.msrR 0x0000080B#32, .rdmsrEoi),
      (.msrR 0x0000080D#32, .rdmsrLdr),
      (.msrR 0x0000080F#32, .rdmsrSvr),
      (.msrR 0x00000828#32, .rdmsrEsr),
      (.msrR 0x00000830#32, .rdmsrIcr),
      (.msrR 0x00000832#32, .rdmsrLvtTimer),
      (.msrR 0x00000833#32, .rdmsrLvtThermal),
      (.msrR 0x00000834#32, .rdmsrLvtPmr),
      (.msrR 0x00000835#32, .rdmsrLvtLint0) ] = true := by
  decide

theorem test_decode_rdmsr_part2 : decodesAll
    [ (.msrR 0x00000836#32, .rdmsrLvtLint1),
      (.msrR 0x00000837#32, .rdmsrLvtError),
      (.msrR 0x00000838#32, .rdmsrTimerIcr),
      (.msrR 0x00000839#32, .rdmsrTimerCcr),
      (.msrR 0x0000083E#32, .rdmsrTimerDcr),
      (.msrR 0x0000083F#32, .rdmsrSelfIpi),
      (.msrR 0x00000815#32, (.rdmsrIsrk 5#3)),
      (.msrR 0x0000081D#32, (.rdmsrTmrk 5#3)),
      (.msrR 0x00000825#32, (.rdmsrIrrk 5#3)),
      (.msrR 0x00000800#32, .rdmsrReserved800),
      (.msrR 0x00000801#32, .rdmsrReserved801),
      (.msrR 0x00000804#32, .rdmsrReserved804),
      (.msrR 0x00000805#32, .rdmsrReserved805),
      (.msrR 0x00000806#32, .rdmsrReserved806) ] = true := by
  decide

theorem test_decode_rdmsr_part3 : decodesAll
    [ (.msrR 0x00000807#32, .rdmsrReserved807),
      (.msrR 0x00000809#32, .rdmsrReserved809),
      (.msrR 0x0000080C#32, .rdmsrReserved80C),
      (.msrR 0x0000080E#32, .rdmsrReserved80E),
      (.msrR 0x00000829#32, .rdmsrReserved829),
      (.msrR 0x0000082A#32, .rdmsrReserved82A),
      (.msrR 0x0000082B#32, .rdmsrReserved82B),
      (.msrR 0x0000082C#32, .rdmsrReserved82C),
      (.msrR 0x0000082D#32, .rdmsrReserved82D),
      (.msrR 0x0000082E#32, .rdmsrReserved82E),
      (.msrR 0x0000082F#32, .rdmsrReserved82F),
      (.msrR 0x00000831#32, .rdmsrReserved831),
      (.msrR 0x0000083A#32, .rdmsrReserved83A),
      (.msrR 0x0000083B#32, .rdmsrReserved83B) ] = true := by
  decide

theorem test_decode_rdmsr_part4 : decodesAll
    [ (.msrR 0x0000083C#32, .rdmsrReserved83C),
      (.msrR 0x0000083D#32, .rdmsrReserved83D),
      (.msrR 0x00000BFF#32, (.rdmsrReserved 0x3FF#10)) ] = true := by
  decide

theorem test_decode_wrmsr_part1 : decodesAll
    [ (.msrW 0x0000001B#32 0x123#64, (.wrmsrIa32ApicBase 0x123#64)),
      (.msrW 0x00000802#32 0x123#64, (.wrmsrId 0x123#64)),
      (.msrW 0x00000803#32 0x123#64, (.wrmsrVer 0x123#64)),
      (.msrW 0x00000808#32 0x123#64, (.wrmsrTpr 0x123#64)),
      (.msrW 0x0000080A#32 0x123#64, (.wrmsrPpr 0x123#64)),
      (.msrW 0x0000080B#32 0x123#64, (.wrmsrEoi 0x123#64)),
      (.msrW 0x0000080D#32 0x123#64, (.wrmsrLdr 0x123#64)),
      (.msrW 0x0000080F#32 0x123#64, (.wrmsrSvr 0x123#64)),
      (.msrW 0x00000828#32 0x123#64, (.wrmsrEsr 0x123#64)),
      (.msrW 0x00000830#32 0x123#64, (.wrmsrIcr 0x123#64)),
      (.msrW 0x00000832#32 0x123#64, (.wrmsrLvtTimer 0x123#64)),
      (.msrW 0x00000833#32 0x123#64, (.wrmsrLvtThermal 0x123#64)),
      (.msrW 0x00000834#32 0x123#64, (.wrmsrLvtPmr 0x123#64)),
      (.msrW 0x00000835#32 0x123#64, (.wrmsrLvtLint0 0x123#64)) ] = true := by
  decide

theorem test_decode_wrmsr_part2 : decodesAll
    [ (.msrW 0x00000836#32 0x123#64, (.wrmsrLvtLint1 0x123#64)),
      (.msrW 0x00000837#32 0x123#64, (.wrmsrLvtError 0x123#64)),
      (.msrW 0x00000838#32 0x123#64, (.wrmsrTimerIcr 0x123#64)),
      (.msrW 0x00000839#32 0x123#64, (.wrmsrTimerCcr 0x123#64)),
      (.msrW 0x0000083E#32 0x123#64, (.wrmsrTimerDcr 0x123#64)),
      (.msrW 0x0000083F#32 0x123#64, (.wrmsrSelfIpi 0x123#64)),
      (.msrW 0x00000815#32 0x123#64, (.wrmsrIsrk 5#3 0x123#64)),
      (.msrW 0x0000081D#32 0x123#64, (.wrmsrTmrk 5#3 0x123#64)),
      (.msrW 0x00000825#32 0x123#64, (.wrmsrIrrk 5#3 0x123#64)),
      (.msrW 0x00000800#32 0x123#64, (.wrmsrReserved800 0x123#64)),
      (.msrW 0x00000801#32 0x123#64, (.wrmsrReserved801 0x123#64)),
      (.msrW 0x00000804#32 0x123#64, (.wrmsrReserved804 0x123#64)),
      (.msrW 0x00000805#32 0x123#64, (.wrmsrReserved805 0x123#64)),
      (.msrW 0x00000806#32 0x123#64, (.wrmsrReserved806 0x123#64)) ] = true := by
  decide

theorem test_decode_wrmsr_part3 : decodesAll
    [ (.msrW 0x00000807#32 0x123#64, (.wrmsrReserved807 0x123#64)),
      (.msrW 0x00000809#32 0x123#64, (.wrmsrReserved809 0x123#64)),
      (.msrW 0x0000080C#32 0x123#64, (.wrmsrReserved80C 0x123#64)),
      (.msrW 0x0000080E#32 0x123#64, (.wrmsrReserved80E 0x123#64)),
      (.msrW 0x00000829#32 0x123#64, (.wrmsrReserved829 0x123#64)),
      (.msrW 0x0000082A#32 0x123#64, (.wrmsrReserved82A 0x123#64)),
      (.msrW 0x0000082B#32 0x123#64, (.wrmsrReserved82B 0x123#64)),
      (.msrW 0x0000082C#32 0x123#64, (.wrmsrReserved82C 0x123#64)),
      (.msrW 0x0000082D#32 0x123#64, (.wrmsrReserved82D 0x123#64)),
      (.msrW 0x0000082E#32 0x123#64, (.wrmsrReserved82E 0x123#64)),
      (.msrW 0x0000082F#32 0x123#64, (.wrmsrReserved82F 0x123#64)),
      (.msrW 0x00000831#32 0x123#64, (.wrmsrReserved831 0x123#64)),
      (.msrW 0x0000083A#32 0x123#64, (.wrmsrReserved83A 0x123#64)),
      (.msrW 0x0000083B#32 0x123#64, (.wrmsrReserved83B 0x123#64)) ] = true := by
  decide

theorem test_decode_wrmsr_part4 : decodesAll
    [ (.msrW 0x0000083C#32 0x123#64, (.wrmsrReserved83C 0x123#64)),
      (.msrW 0x0000083D#32 0x123#64, (.wrmsrReserved83D 0x123#64)),
      (.msrW 0x00000BFF#32 0x123#64, (.wrmsrReserved 0x3FF#10 0x123#64)) ] = true := by
  decide

theorem test_decode_load_part1 : decodesAll
    [ (.mmioR 0x00000000FEE00020#64 4, (.loadId 0xFEE00#52)),
      (.mmioR 0x00000000FEE00030#64 4, (.loadVer 0xFEE00#52)),
      (.mmioR 0x00000000FEE00080#64 4, (.loadTpr 0xFEE00#52)),
      (.mmioR 0x00000000FEE00090#64 4, (.loadApr 0xFEE00#52)),
      (.mmioR 0x00000000FEE000A0#64 4, (.loadPpr 0xFEE00#52)),
      (.mmioR 0x00000000FEE000B0#64 4, (.loadEoi 0xFEE00#52)),
      (.mmioR 0x00000000FEE000C0#64 4, (.loadRrr 0xFEE00#52)),
      (.mmioR 0x00000000FEE000D0#64 4, (.loadLdr 0xFEE00#52)),
      (.mmioR 0x00000000FEE000E0#64 4, (.loadDfr 0xFEE00#52)),
      (.mmioR 0x00000000FEE000F0#64 4, (.loadSvr 0xFEE00#52)),
      (.mmioR 0x00000000FEE00280#64 4, (.loadEsr 0xFEE00#52)),
      (.mmioR 0x00000000FEE00320#64 4, (.loadLvtTimer 0xFEE00#52)),
      (.mmioR 0x00000000FEE00330#64 4, (.loadLvtThermal 0xFEE00#52)),
      (.mmioR 0x00000000FEE00340#64 4, (.loadLvtPmr 0xFEE00#52)) ] = true := by
  decide

theorem test_decode_load_part2 : decodesAll
    [ (.mmioR 0x00000000FEE00350#64 4, (.loadLvtLint0 0xFEE00#52)),
      (.mmioR 0x00000000FEE00360#64 4, (.loadLvtLint1 0xFEE00#52)),
      (.mmioR 0x00000000FEE00370#64 4, (.loadLvtError 0xFEE00#52)),
      (.mmioR 0x00000000FEE00380#64 4, (.loadTimerIcr 0xFEE00#52)),
      (.mmioR 0x00000000FEE00390#64 4, (.loadTimerCcr 0xFEE00#52)),
      (.mmioR 0x00000000FEE003E0#64 4, (.loadTimerDcr 0xFEE00#52)),
      (.mmioR 0x00000000FEE00150#64 4, (.loadIsrk 0xFEE00#52 5#3)),
      (.mmioR 0x00000000FEE001D0#64 4, (.loadTmrk 0xFEE00#52 5#3)),
      (.mmioR 0x00000000FEE00250#64 4, (.loadIrrk 0xFEE00#52 5#3)),
      (.mmioR 0x00000000FEE00300#64 4, (.loadIcrLo 0xFEE00#52)),
      (.mmioR 0x00000000FEE00310#64 4, (.loadIcrHi 0xFEE00#52)),
      (.mmioR 0x00000000FEE00290#64 4, (.loadReserved 0xFEE00#52 0x29#8)) ] = true := by
  decide

theorem test_decode_store_part1 : decodesAll
    [ (.mmioW 0x00000000FEE00020#64 4 0x123#32, (.storeId 0xFEE00#52 0x123#32)),
      (.mmioW 0x00000000FEE00030#64 4 0x123#32, (.storeVer 0xFEE00#52 0x123#32)),
      (.mmioW 0x00000000FEE00080#64 4 0x123#32, (.storeTpr 0xFEE00#52 0x123#32)),
      (.mmioW 0x00000000FEE00090#64 4 0x123#32, (.storeApr 0xFEE00#52 0x123#32)),
      (.mmioW 0x00000000FEE000A0#64 4 0x123#32, (.storePpr 0xFEE00#52 0x123#32)),
      (.mmioW 0x00000000FEE000B0#64 4 0x123#32, (.storeEoi 0xFEE00#52 0x123#32)),
      (.mmioW 0x00000000FEE000C0#64 4 0x123#32, (.storeRrr 0xFEE00#52 0x123#32)),
      (.mmioW 0x00000000FEE000D0#64 4 0x123#32, (.storeLdr 0xFEE00#52 0x123#32)),
      (.mmioW 0x00000000FEE000E0#64 4 0x123#32, (.storeDfr 0xFEE00#52 0x123#32)),
      (.mmioW 0x00000000FEE000F0#64 4 0x123#32, (.storeSvr 0xFEE00#52 0x123#32)),
      (.mmioW 0x00000000FEE00280#64 4 0x123#32, (.storeEsr 0xFEE00#52 0x123#32)),
      (.mmioW 0x00000000FEE00320#64 4 0x123#32, (.storeLvtTimer 0xFEE00#52 0x123#32)),
      (.mmioW 0x00000000FEE00330#64 4 0x123#32, (.storeLvtThermal 0xFEE00#52 0x123#32)),
      (.mmioW 0x00000000FEE00340#64 4 0x123#32, (.storeLvtPmr 0xFEE00#52 0x123#32)) ] = true := by
  decide

theorem test_decode_store_part2 : decodesAll
    [ (.mmioW 0x00000000FEE00350#64 4 0x123#32, (.storeLvtLint0 0xFEE00#52 0x123#32)),
      (.mmioW 0x00000000FEE00360#64 4 0x123#32, (.storeLvtLint1 0xFEE00#52 0x123#32)),
      (.mmioW 0x00000000FEE00370#64 4 0x123#32, (.storeLvtError 0xFEE00#52 0x123#32)),
      (.mmioW 0x00000000FEE00380#64 4 0x123#32, (.storeTimerIcr 0xFEE00#52 0x123#32)),
      (.mmioW 0x00000000FEE00390#64 4 0x123#32, (.storeTimerCcr 0xFEE00#52 0x123#32)),
      (.mmioW 0x00000000FEE003E0#64 4 0x123#32, (.storeTimerDcr 0xFEE00#52 0x123#32)),
      (.mmioW 0x00000000FEE00150#64 4 0x123#32, (.storeIsrk 0xFEE00#52 5#3 0x123#32)),
      (.mmioW 0x00000000FEE001D0#64 4 0x123#32, (.storeTmrk 0xFEE00#52 5#3 0x123#32)),
      (.mmioW 0x00000000FEE00250#64 4 0x123#32, (.storeIrrk 0xFEE00#52 5#3 0x123#32)),
      (.mmioW 0x00000000FEE00300#64 4 0x123#32, (.storeIcrLo 0xFEE00#52 0x123#32)),
      (.mmioW 0x00000000FEE00310#64 4 0x123#32, (.storeIcrHi 0xFEE00#52 0x123#32)),
      (.mmioW 0x00000000FEE00290#64 4 0x123#32, (.storeReserved 0xFEE00#52 0x29#8 0x123#32)) ] = true := by
  decide

theorem test_decode_cpuid : decodesAll
    [ (.cpuid 0x00000001#32 3#32, (.cpuid01h 3#32)),
      (.cpuid 0x0000000B#32 3#32, (.cpuid0bh 3#32)) ] = true := by
  decide

theorem test_decode_x86 : decodesAll
    [ (.x86 [0x0F#8, 0x32#8], .x86Rdmsr),
      (.x86 [0x0F#8, 0x30#8], .x86Wrmsr),
      (.x86 [0x0F#8, 0xA2#8], .x86Cpuid) ] = true := by
  decide

theorem test_decode_offsets_above_the_table :
    decode (.mmioR 0x00000000FEE003F0#64 4) = .ok (.loadReserved 0xFEE00#52 0x3F#8)
    ∧ decode (.mmioR 0x00000000FEE00400#64 4) = .ok (.loadReserved 0xFEE00#52 0x40#8)
    ∧ decode (.mmioW 0x00000000FEE00FF0#64 4 7#32) = .ok (.storeReserved 0xFEE00#52 0xFF#8 7#32) := by
  refine ⟨?_, ?_, ?_⟩ <;> rfl
/-! ### The mode MSR (95_test_vectors.md section 2.2) -/

theorem test_base_read_xapic : answer (exec .rdmsrIa32ApicBase xa) = some (.value 0x00000000FEE00900#64) := by decide

theorem test_base_read_x2apic : answer (exec .rdmsrIa32ApicBase x2) = some (.value 0x00000000FEE00D00#64) := by decide

theorem test_base_enter_x2apic :
    after (fun u => (u.mode, u.ldr)) (exec (.wrmsrIa32ApicBase 0x00000000FEE00D00#64) xa)
      = some (.x2apic, 0x00120020#32) := by
  decide

theorem test_base_enter_disabled :
    after Apic.mode (exec (.wrmsrIa32ApicBase 0x00000000FEE00100#64) x2) = some .disabled := by
  decide

theorem test_base_leave_disabled :
    after Apic.mode (exec (.wrmsrIa32ApicBase 0x00000000FEE00900#64) off) = some .xapic := by
  decide

theorem test_base_write_faults :
    faultsAll x2 [.wrmsrIa32ApicBase 0x00000000FEE00900#64, .wrmsrIa32ApicBase 0x00000000FEE00500#64] = true
    ∧ faultsAll off [.wrmsrIa32ApicBase 0x00000000FEE00D00#64, .wrmsrIa32ApicBase 0x00000000FEE00500#64] = true
    ∧ faultsAll xa [.wrmsrIa32ApicBase 0x00000000FEE00D01#64, .wrmsrIa32ApicBase 0x00000000FEE00F00#64] = true := by
  decide

theorem test_base_write_refuses_bsp :
    refusal (exec (.wrmsrIa32ApicBase 0x00000000FEE00C00#64) xa) = some .bspFlagChange
    ∧ refusal (exec (.wrmsrIa32ApicBase 0x00000000FEE00800#64) x2) = some .bspFlagChange
    ∧ answer (exec (.wrmsrIa32ApicBase 0x00000000FEE00400#64) x2) = some (.exception 13#8 0#32) := by
  decide

theorem test_base_write_refuses_pending :
    refusal (exec (.wrmsrIa32ApicBase 0x00000000FEE00D00#64) (having xa fun u => { u with irr := bitOf 0x40#8 }))
      = some .pendingAtModeChange := by
  decide

/-! ### Identification and read-only registers (section 2.1, 2.3) -/

theorem test_ldr_formula :
    [0x0#32, 0xF#32, 0x10#32, 0x25#32, 0xFFFF#32, 0x000FFFF3#32, 0x00100005#32, 0xFFFFFFFE#32].map logicalX2apicId
      = [0x00000001#32, 0x00008000#32, 0x00010001#32, 0x00020020#32, 0x0FFF8000#32, 0xFFFF0008#32, 0x00000020#32,
        0xFFFF4000#32] := by
  decide

theorem test_rdmsr_id : answer (exec .rdmsrId x2) = some (.value 0x125#64) := by decide

theorem test_rdmsr_ver : answer (exec .rdmsrVer x2) = some (.value 0x01050015#64) := by decide

theorem test_rdmsr_ldr : answer (exec .rdmsrLdr x2) = some (.value 0x00120020#64) := by decide

theorem test_rdmsr_tpr : answer (exec .rdmsrTpr (having x2 fun u => { u with tpr := 0x20#8 })) = some (.value 0x20#64) := by
  decide

theorem test_rdmsr_ppr_from_tpr :
    answer (exec .rdmsrPpr (having x2 fun u => { u with tpr := 0x20#8 })) = some (.value 0x20#64) := by
  decide

theorem test_rdmsr_ppr_from_service :
    answer (exec .rdmsrPpr (having x2 fun u => { u with tpr := 0x20#8, isr := bitOf 0x51#8 }))
      = some (.value 0x50#64) := by
  decide

theorem test_rdmsr_isr :
    [2#3, 0#3, 7#3].map (fun k => answer (exec (.rdmsrIsrk k) (having x2 fun u => { u with isr := bitOf 0x41#8 })))
      = [some (.value 0x2#64), some (.value 0#64), some (.value 0#64)] := by
  decide

theorem test_rdmsr_tmr :
    answer (exec (.rdmsrTmrk 3#3) (having x2 fun u => { u with tmr := bitOf 0x7F#8 })) = some (.value 0x80000000#64) := by
  decide

theorem test_rdmsr_irr :
    answer (exec (.rdmsrIrrk 7#3) (having x2 fun u => { u with irr := bitOf 0xFF#8 })) = some (.value 0x80000000#64) := by
  decide

theorem test_read_only_writes_fault :
    faultsAll x2 [.wrmsrId 0#64, .wrmsrVer 0#64, .wrmsrPpr 0#64, .wrmsrLdr 0#64, .wrmsrIsrk 0#3 0#64, .wrmsrTmrk 7#3 0#64,
      .wrmsrIrrk 0#3 0#64, .wrmsrTimerCcr 0#64] = true := by
  decide

theorem test_reserved_reads_fault :
    faultsAll x2 [.rdmsrReserved800, .rdmsrReserved801, .rdmsrReserved804, .rdmsrReserved805, .rdmsrReserved806,
      .rdmsrReserved807, .rdmsrReserved809, .rdmsrReserved80C, .rdmsrReserved80E, .rdmsrReserved829, .rdmsrReserved82A,
      .rdmsrReserved82B, .rdmsrReserved82C, .rdmsrReserved82D, .rdmsrReserved82E, .rdmsrReserved82F, .rdmsrReserved831,
      .rdmsrReserved83A, .rdmsrReserved83B, .rdmsrReserved83C, .rdmsrReserved83D, .rdmsrReserved 0x040#10,
      .rdmsrReserved 0x3FF#10, .rdmsrEoi, .rdmsrSelfIpi] = true := by
  decide

theorem test_reserved_writes_fault :
    faultsAll x2 [.wrmsrReserved800 0#64, .wrmsrReserved801 0#64, .wrmsrReserved804 0#64, .wrmsrReserved805 0#64,
      .wrmsrReserved806 0#64, .wrmsrReserved807 0#64, .wrmsrReserved809 0#64, .wrmsrReserved80C 0#64,
      .wrmsrReserved80E 0#64, .wrmsrReserved829 0#64, .wrmsrReserved82A 0#64, .wrmsrReserved82B 0#64,
      .wrmsrReserved82C 0#64, .wrmsrReserved82D 0#64, .wrmsrReserved82E 0#64, .wrmsrReserved82F 0#64,
      .wrmsrReserved831 0#64, .wrmsrReserved83A 0#64, .wrmsrReserved83B 0#64, .wrmsrReserved83C 0#64,
      .wrmsrReserved83D 0#64, .wrmsrReserved 0x100#10 0#64] = true := by
  decide

theorem test_msrs_fault_outside_x2apic_mode :
    faultsAll xa [.rdmsrId, .wrmsrSelfIpi 0x40#64] = true ∧ faultsAll off [.rdmsrVer] = true := by
  decide

theorem test_msrs_fault_above_cpl_zero :
    faultsAll (having x2 fun u => { u with core := { u.core with cpl := 3#2 } }) [.rdmsrId, .x86Rdmsr] = true := by
  decide

/-! ### TPR, EOI, SVR, ESR (section 2.4, 2.7) -/

theorem test_wrmsr_eoi_clears_the_highest :
    after Apic.isr (exec (.wrmsrEoi 0#64) (having x2 fun u => { u with isr := bitOf 0x41#8 ||| bitOf 0x93#8 }))
      = some (bitOf 0x41#8) := by
  decide

theorem test_wrmsr_eoi_nonzero_faults :
    faultsAll (having x2 fun u => { u with isr := bitOf 0x41#8 }) [.wrmsrEoi 1#64, .wrmsrEoi 0x0000000100000000#64]
      = true := by
  decide

theorem test_eoi_broadcasts_level :
    after Apic.out (exec (.wrmsrEoi 0#64) (having x2 fun u => { u with isr := bitOf 0x41#8, tmr := bitOf 0x41#8 }))
      = some [.eoiBroadcast 0x41#8] := by
  decide

theorem test_eoi_broadcast_suppressed :
    after Apic.out (exec (.wrmsrEoi 0#64)
      (having x2 fun u => { u with isr := bitOf 0x41#8, tmr := bitOf 0x41#8, svr := 0x11FF#32 })) = some [] := by
  decide

theorem test_wrmsr_tpr : after Apic.tpr (exec (.wrmsrTpr 0xF0#64) x2) = some 0xF0#8 := by decide

theorem test_wrmsr_tpr_reserved : faultsAll x2 [.wrmsrTpr 0x100#64, .wrmsrTpr 0x0000000100000000#64] = true := by decide

theorem test_rdmsr_svr :
    answer (exec .rdmsrSvr (having x2 fun u => { u with svr := 0xFF#32 })) = some (.value 0xFF#64) := by
  decide

theorem test_wrmsr_svr : after Apic.svr (exec (.wrmsrSvr 0x11FF#64) x2) = some 0x11FF#32 := by decide

theorem test_wrmsr_svr_reserved :
    faultsAll x2 [.wrmsrSvr 0x2FF#64] = true
    ∧ faultsAll (having x2 fun u => { u with hw := { u.hw with directedEoi := false } }) [.wrmsrSvr 0x11FF#64]
      = true := by
  decide

theorem test_rdmsr_esr_shows_the_latched :
    answer (exec .rdmsrEsr (having x2 fun u => { u with esrPending := 0x10#32 })) = some (.value 0#64) := by
  decide

theorem test_wrmsr_esr_latches :
    after (fun u => (u.esr, u.esrPending)) (exec (.wrmsrEsr 0#64) (having x2 fun u => { u with esrPending := 0x10#32 }))
      = some (0x10#32, 0#32) := by
  decide

theorem test_wrmsr_esr_nonzero : faultsAll x2 [.wrmsrEsr 1#64] = true := by decide

/-! ### ICR and SELF IPI (section 2.5) -/

theorem test_icr_physical : flight (exec (.wrmsrIcr 0x0000000100004031#64) four) = some [(0x1#32, 0x31#8)] := by decide

theorem test_icr_nobody : flight (exec (.wrmsrIcr 0x0000000700004031#64) four) = some [] := by decide

theorem test_icr_logical :
    flight (exec (.wrmsrIcr 0x0001000300004831#64) four) = some [(0x10#32, 0x31#8), (0x11#32, 0x31#8)] := by
  decide

theorem test_icr_broadcast :
    flight (exec (.wrmsrIcr 0xFFFFFFFF00004831#64) four)
      = some [(0x0#32, 0x31#8), (0x1#32, 0x31#8), (0x10#32, 0x31#8), (0x11#32, 0x31#8)] := by
  decide

theorem test_icr_all_but_self :
    flight (exec (.wrmsrIcr 0x00000000000C4040#64) four)
      = some [(0x1#32, 0x40#8), (0x10#32, 0x40#8), (0x11#32, 0x40#8)] := by
  decide

theorem test_icr_reserved_bits : faultsAll four [.wrmsrIcr 0x0000000100005031#64, .wrmsrIcr 0x0000000100104031#64] = true := by
  decide

theorem test_icr_lowest_priority :
    after Apic.esrPending (exec (.wrmsrIcr 0x0000000100004131#64) four) = some 0x10#32
    ∧ flight (exec (.wrmsrIcr 0x0000000100004131#64) four) = some [] := by
  decide

theorem test_icr_reserved_delivery :
    refusal (exec (.wrmsrIcr 0x0000000100004331#64) four) = some .reservedDeliveryMode := by
  decide

theorem test_icr_error_interrupt :
    after (fun u => (u.esrPending, u.irr)) (exec (.wrmsrIcr 0x0000000100004131#64)
      (having four fun u => { u with lvtError := { reg := 0xFE#32, raised := 0#256 } })) = some (0x10#32, bitOf 0xFE#8) := by
  decide

theorem test_rdmsr_icr_reserved_zero (s : State) (v : W64) (h : answer (exec .rdmsrIcr s) = some (.value v)) :
    v &&& rsvdIcr s.self.hw = 0#64 := by
  by_cases hc : msrOpen s = true
  · have hv : s.freeWord &&& ~~~(rsvdIcr s.self.hw) = v := by
      simpa [answer, after, unitAfter, exec, execRdmsrIcr, rdmsrThen, hc, State.answered, State.mapCore,
        State.mapSelf] using h
    rw [← hv, BitVec.and_assoc]
    simp
  · simp [answer, after, unitAfter, exec, execRdmsrIcr, rdmsrThen, hc, raiseGP, State.answered, State.mapCore,
      State.mapSelf] at h

theorem test_self_ipi : flight (exec (.wrmsrSelfIpi 0x40#64) four) = some [(0x0#32, 0x40#8)] := by decide

theorem test_self_ipi_faults : faultsAll four [.wrmsrSelfIpi 0x100#64] = true := by decide

/-! ### The local vector table and the timer (section 2.6) -/

/-- A unit with another register in every LVT entry, nothing pending, in x2APIC or in xAPIC mode. -/
def lvts (extd : Bool) : State :=
  having (alone (unit 0x125#32 true extd)) fun u =>
    { u with
      lvtTimer := { reg := 0x00020031#32, raised := 0#256 }
      lvtThermal := { reg := 0x00010232#32, raised := 0#256 }
      lvtPmr := { reg := 0x00000433#32, raised := 0#256 }
      lvtLint0 := { reg := 0x00018734#32, raised := 0#256 }
      lvtLint1 := { reg := 0x0000A435#32, raised := 0#256 }
      lvtError := { reg := 0x00010036#32, raised := 0#256 } }

theorem lvt_word_quiet (x : LvtId) (extd : Bool) (f : W64) :
    lvtWord x f (lvts extd) = ((lvts extd).self.lvt x).reg &&& lvtWr x := by
  have h : openStatus x (lvts extd) = 0#32 := by cases x <;> cases extd <;> decide
  simp [lvtWord, h]

theorem answer_read_lvt (x : LvtId) :
    answer (readLvt x (lvts true)) = some (.value (zext64 (((lvts true).self.lvt x).reg &&& lvtWr x))) := by
  have h : msrOpen (lvts true) = true := by decide
  have hr : zext64 (((lvts true).self.lvt x).reg &&& lvtWr x) &&& ~~~(rsvdLvt (lvts true).self.hw x)
      = zext64 (((lvts true).self.lvt x).reg &&& lvtWr x) := by cases x <;> decide
  simp [answer, after, unitAfter, readLvt, rdmsrThen, h, hr, lvt_word_quiet, State.answered, State.mapCore,
    State.mapSelf]

theorem answer_load_lvt (x : LvtId) :
    answer (loadLvt 0xFEE00#52 x (lvts false))
      = some (.data (((lvts false).self.lvt x).reg &&& lvtWr x)) := by
  have h : (lvts false).self.mode = .xapic := by decide
  have hp : 0xFEE00#52 = (lvts false).self.base.page := by decide
  simp [answer, after, unitAfter, loadLvt, mmio, h, ← hp, lvt_word_quiet, State.answered, State.mapCore, State.mapSelf]

theorem test_lvt_reads :
    answer (exec .rdmsrLvtTimer (lvts true)) = some (.value 0x20031#64)
    ∧ answer (exec .rdmsrLvtThermal (lvts true)) = some (.value 0x10232#64)
    ∧ answer (exec .rdmsrLvtPmr (lvts true)) = some (.value 0x433#64)
    ∧ answer (exec .rdmsrLvtLint0 (lvts true)) = some (.value 0x18734#64)
    ∧ answer (exec .rdmsrLvtLint1 (lvts true)) = some (.value 0xA435#64)
    ∧ answer (exec .rdmsrLvtError (lvts true)) = some (.value 0x10036#64) :=
  ⟨answer_read_lvt .timer, answer_read_lvt .thermal, answer_read_lvt .pmr, answer_read_lvt .lint0,
    answer_read_lvt .lint1, answer_read_lvt .error⟩

theorem test_lvt_writes :
    after (fun u => u.lvtTimer.reg) (exec (.wrmsrLvtTimer 0x00020030#64) x2) = some 0x00020030#32
    ∧ after (fun u => u.lvtThermal.reg) (exec (.wrmsrLvtThermal 0x400#64) x2) = some 0x400#32
    ∧ after (fun u => u.lvtPmr.reg) (exec (.wrmsrLvtPmr 0x400#64) x2) = some 0x400#32
    ∧ after (fun u => u.lvtLint0.reg) (exec (.wrmsrLvtLint0 0xA700#64) x2) = some 0xA700#32
    ∧ after (fun u => u.lvtLint1.reg) (exec (.wrmsrLvtLint1 0xA700#64) x2) = some 0xA700#32
    ∧ after (fun u => u.lvtError.reg) (exec (.wrmsrLvtError 0xFE#64) x2) = some 0xFE#32 := by
  decide

theorem test_lvt_reserved :
    faultsAll x2 [.wrmsrLvtTimer 0x00040030#64, .wrmsrLvtTimer 0x430#64, .wrmsrLvtThermal 0x8000#64, .wrmsrLvtPmr 0x8000#64,
      .wrmsrLvtLint0 0x20000#64, .wrmsrLvtLint1 0x20000#64, .wrmsrLvtError 0x4FE#64] = true := by
  decide

theorem test_lvt_read_only_bits :
    after (fun u => u.lvtTimer.reg) (exec (.wrmsrLvtTimer 0x1030#64) x2) = some 0x30#32
    ∧ faultsAll (having x2 fun u => { u with hw := { u.hw with roBitWrite := .fault } }) [.wrmsrLvtTimer 0x1030#64]
      = true := by
  decide

theorem test_lvt_cmci_when_present :
    after (fun u => u.lvtCmci.reg) (exec (.wrmsrReserved82F 0x400#64)
      (having x2 fun u => { u with hw := { u.hw with hasLvtCmci := true } })) = some 0x400#32 := by
  decide

theorem test_timer_icr_starts :
    after (fun u => (u.timerIcr, u.count, u.running)) (exec (.wrmsrTimerIcr 0x1000#64) x2)
      = some (0x1000#32, 0x1000#32, true)
    ∧ answer (exec .rdmsrTimerIcr (having x2 fun u => { u with timerIcr := 0x1000#32 })) = some (.value 0x1000#64) := by
  decide

theorem test_timer_icr_zero_stops :
    after Apic.running (exec (.wrmsrTimerIcr 0#64) (having x2 fun u => { u with count := 5#32, running := true }))
      = some false
    ∧ faultsAll x2 [.wrmsrTimerIcr 0x0000000100000000#64] = true := by
  decide

theorem test_timer_ccr_reads :
    answer (exec .rdmsrTimerCcr (having x2 fun u => { u with count := 7#32 })) = some (.value 7#64) := by
  decide

theorem test_timer_dcr :
    after Apic.timerDcr (exec (.wrmsrTimerDcr 0xB#64) x2) = some 0xB#32 ∧ faultsAll x2 [.wrmsrTimerDcr 0x4#64] = true
    ∧ answer (exec .rdmsrTimerDcr (having x2 fun u => { u with timerDcr := 0xB#32 })) = some (.value 0xB#64) := by
  decide

theorem test_divide_values :
    [0x0#32, 0x1#32, 0x2#32, 0x3#32, 0x8#32, 0x9#32, 0xA#32, 0xB#32].map divideValue = [2, 4, 8, 16, 32, 64, 128, 1] := by
  decide

/-- A unit whose timer is about to expire. -/
def expiring (reg : W32) : State :=
  { having x2 fun u =>
      { u with timerIcr := 0x1000#32, count := 1#32, running := true, lvtTimer := { reg := reg, raised := 0#256 } } with
    schedule := [.tick] }

theorem test_tick_one_shot :
    after (fun u => (u.count, u.irr, u.running)) (step (expiring 0x30#32)) = some (0#32, bitOf 0x30#8, false) := by
  decide

theorem test_tick_periodic :
    after (fun u => (u.count, u.irr, u.running)) (step (expiring 0x20030#32))
      = some (0x1000#32, bitOf 0x30#8, true) := by
  decide

theorem test_tick_masked :
    after (fun u => (u.count, u.irr)) (step (expiring 0x10030#32)) = some (0#32, 0#256) := by
  decide

/-! ### The interrupt logic (section 2.7) -/

theorem test_take :
    after (fun u => (u.irr, u.isr, u.out)) (step { having x2 fun u =>
      { u with irr := bitOf 0x40#8, core := { u.core with intEnabled := true } } with schedule := [.take] })
      = some (0#256, bitOf 0x40#8, [.taken 0x40#8]) := by
  decide

theorem test_offers :
    offered { x2.self with isr := bitOf 0x40#8, irr := bitOf 0x45#8 } = none
    ∧ offered { x2.self with isr := bitOf 0x40#8, irr := bitOf 0x51#8 } = some 0x51#8
    ∧ offered { x2.self with tpr := 0x50#8, irr := bitOf 0x51#8 } = none := by
  decide

/-- The status bits of a LINT0 entry: open while its interrupt is pending, 0 once it is taken, although another
sender's interrupt of the same vector is pending then. -/
theorem test_lvt_status_after_dispatch :
    let u : Apic := { x2.self with
      lvtLint0 := { reg := 0x8041#32, raised := bitOf 0x41#8 }, irr := bitOf 0x41#8, tmr := bitOf 0x41#8 }
    openStatus .lint0 (alone u) = 0x5000#32
    ∧ openStatus .lint0 (dispatch 0x41#8 (alone u)) = 0#32
    ∧ openStatus .lint0 (accept .sent 0x41#8 true (dispatch 0x41#8 (alone u))) = 0#32
    ∧ openStatus .lint0 (accept (.source .lint0) 0x41#8 true (dispatch 0x41#8 (alone u))) = 0x5000#32 := by
  decide

/-- An LVT entry of delivery mode INIT hands the event over and touches nothing else; an INIT message resets too. -/
theorem test_init_by_entry_and_by_message :
    after (fun u => (u.out, u.isr)) (step { having x2 fun u =>
      { u with isr := bitOf 0x40#8, lvtLint1 := { reg := 0x500#32, raised := 0#256 } } with
      schedule := [.source .lint1] }) = some ([.coreEvent 5#3 0#8], bitOf 0x40#8)
    ∧ after (fun u => (u.out, u.isr, u.svr)) (step { having x2 fun u => { u with isr := bitOf 0x40#8 } with
      schedule := [.deviceMessage 5#3 0#8 false] }) = some ([.coreEvent 5#3 0#8], 0#256, 0xFF#32) := by
  decide

theorem test_source_of_an_absent_entry :
    faultOf (step { x2 with schedule := [.source .cmci] }) = some .noSuchSource := by
  decide

theorem test_deliver_to_another_unit :
    (match step { four with
        inflight := [{ src := 0#32, dst := 1#32, del := 0#3, vec := 0x31#8, trig := false, level := true,
                       origin := .sent }]
        schedule := [.deliver 0] } with
      | .next s => (s.others.map fun u => u.irr) == [bitOf 0x31#8, 0#256, 0#256] && s.inflight == []
      | _ => false) = true := by
  decide

/-! ### CPUID (section 2.8) and the core instructions by their bytes (30_encoding.md R111 to R115) -/

theorem test_cpuid_0b :
    answer (exec (.cpuid0bh 0#32) x2) = some (.cpuid 1#32 2#32 0x100#32 0x125#32)
    ∧ answer (exec (.cpuid0bh 5#32) off) = some (.cpuid 0#32 0#32 5#32 0x125#32) := by
  decide

theorem test_cpuid_01 (f g : W32) :
    cpuid01Ebx (params 0x125#32) f >>> 24 = 0x25#32 ∧ (cpuid01Ecx (params 0x125#32) g).getLsbD 21 = true := by
  refine ⟨?_, by simp [cpuid01Ecx, params]⟩
  apply BitVec.eq_of_getLsbD_eq
  intro i hi
  simp only [cpuid01Ebx, params, BitVec.getLsbD_ushiftRight, BitVec.getLsbD_append]
  have h : ¬ 24 + i < 24 := by omega
  simp only [h, if_false, Nat.add_sub_cancel_left]
  interval_cases i <;> rfl

theorem test_x86_rdmsr :
    after (fun u => (u.core.edx, u.core.eax)) (exec .x86Rdmsr
      (having x2 fun u => { u with core := { u.core with ecx := 0x803#32 } })) = some (0#32, 0x01050015#32) := by
  decide

theorem test_x86_wrmsr :
    flight (exec .x86Wrmsr (having four fun u =>
      { u with core := { u.core with ecx := 0x830#32, eax := 0x4831#32, edx := 0x10003#32 } }))
      = some [(0x10#32, 0x31#8), (0x11#32, 0x31#8)] := by
  decide

theorem test_x86_cpuid :
    after (fun u => (u.core.eax, u.core.ebx, u.core.ecx, u.core.edx)) (exec .x86Cpuid
      (having x2 fun u => { u with core := { u.core with eax := 0x0B#32, ecx := 1#32 } }))
      = some (4#32, 8#32, 0x201#32, 0x125#32) := by
  decide

/-- Another leaf and an MSR outside the map run: the core is answered, the unit's registers stay. -/
theorem test_outside_the_map_runs :
    after Apic.svr (exec .x86Cpuid (having x2 fun u => { u with core := { u.core with eax := 0x07#32 } }))
      = some 0x1FF#32
    ∧ after (fun u => (u.svr, u.core.answer)) (step { x2 with schedule := [.access 3#2 (.msrR 0x10#32)] })
      = some (0x1FF#32, .exception 13#8 0#32) := by
  refine ⟨?_, ?_⟩ <;> decide

/-! ### The MMIO interface (section 2.9) -/

theorem test_load_ver : answer (exec (.loadVer 0xFEE00#52) xa) = some (.data 0x01050015#32) := by decide

theorem test_load_id : answer (exec (.loadId 0xFEE00#52) xa) = some (.data 0x25000000#32) := by decide

theorem test_loads_of_registers :
    [Instr.loadTpr 0xFEE00#52, .loadLdr 0xFEE00#52, .loadDfr 0xFEE00#52, .loadSvr 0xFEE00#52, .loadEsr 0xFEE00#52,
      .loadTimerIcr 0xFEE00#52, .loadTimerCcr 0xFEE00#52, .loadTimerDcr 0xFEE00#52, .loadIcrHi 0xFEE00#52,
      .loadIcrLo 0xFEE00#52].map (fun i => answer (exec i (having xa fun u =>
        { u with tpr := 0x20#8, ldr := 0x03000000#32, esr := 0x80#32, timerIcr := 9#32, count := 7#32, timerDcr := 3#32,
                 icr := 0x0500000000004031#64 })))
      = [some (.data 0x20#32), some (.data 0x03000000#32), some (.data 0xFFFFFFFF#32), some (.data 0x1FF#32),
        some (.data 0x80#32), some (.data 9#32), some (.data 7#32), some (.data 3#32), some (.data 0x05000000#32),
        some (.data 0x4031#32)] := by
  decide

theorem test_load_banks :
    [Instr.loadIsrk 0xFEE00#52 2#3, .loadTmrk 0xFEE00#52 3#3, .loadIrrk 0xFEE00#52 7#3].map (fun i =>
      answer (exec i (having xa fun u => { u with isr := bitOf 0x41#8, tmr := bitOf 0x7F#8, irr := bitOf 0xFF#8 })))
      = [some (.data 2#32), some (.data 0x80000000#32), some (.data 0x80000000#32)] := by
  decide

theorem test_load_ppr :
    answer (exec (.loadPpr 0xFEE00#52) (having xa fun u => { u with tpr := 0x20#8, isr := bitOf 0x51#8 }))
      = some (.data 0x50#32) := by
  decide

theorem test_load_delivery_status :
    answer (exec (.loadIcrLo 0xFEE00#52) { xa with
      inflight := [{ src := 0x125#32, dst := 1#32, del := 0#3, vec := 0x31#8, trig := false, level := true,
                       origin := .sent }] })
      = some (.data 0x1000#32) := by
  decide

theorem test_load_lvts :
    answer (exec (.loadLvtTimer 0xFEE00#52) (lvts false)) = some (.data 0x20031#32)
    ∧ answer (exec (.loadLvtThermal 0xFEE00#52) (lvts false)) = some (.data 0x10232#32)
    ∧ answer (exec (.loadLvtPmr 0xFEE00#52) (lvts false)) = some (.data 0x433#32)
    ∧ answer (exec (.loadLvtLint0 0xFEE00#52) (lvts false)) = some (.data 0x18734#32)
    ∧ answer (exec (.loadLvtLint1 0xFEE00#52) (lvts false)) = some (.data 0xA435#32)
    ∧ answer (exec (.loadLvtError 0xFEE00#52) (lvts false)) = some (.data 0x10036#32) :=
  ⟨answer_load_lvt .timer, answer_load_lvt .thermal, answer_load_lvt .pmr, answer_load_lvt .lint0,
    answer_load_lvt .lint1, answer_load_lvt .error⟩

theorem test_illegal_loads_are_logged :
    [Instr.loadReserved 0xFEE00#52 0x04#8, .loadEoi 0xFEE00#52].map (fun i => after Apic.esrPending (exec i xa))
      = [some 0x80#32, some 0x80#32] := by
  decide

theorem test_open_loads_are_not_logged :
    [Instr.loadApr 0xFEE00#52, .loadRrr 0xFEE00#52].map (fun i => after Apic.esrPending (exec i xa))
      = [some 0#32, some 0#32] := by
  decide

theorem test_store_eoi :
    after Apic.isr (exec (.storeEoi 0xFEE00#52 0x12345678#32) (having xa fun u => { u with isr := bitOf 0x41#8 }))
      = some 0#256 := by
  decide

theorem test_stores_of_registers :
    after Apic.xapicId (exec (.storeId 0xFEE00#52 0x77FFFFFF#32) xa) = some 0x77#8
    ∧ after Apic.tpr (exec (.storeTpr 0xFEE00#52 0x12345630#32) xa) = some 0x30#8
    ∧ after Apic.ldr (exec (.storeLdr 0xFEE00#52 0x03FFFFFF#32) xa) = some 0x03000000#32
    ∧ after Apic.dfr (exec (.storeDfr 0xFEE00#52 0#32) xa) = some 0x0FFFFFFF#32
    ∧ after Apic.svr (exec (.storeSvr 0xFEE00#52 0xFFFFFFFF#32) xa) = some 0x13FF#32
    ∧ after Apic.timerDcr (exec (.storeTimerDcr 0xFEE00#52 0xFFFFFFFF#32) xa) = some 0xB#32
    ∧ after Apic.icr (exec (.storeIcrHi 0xFEE00#52 0xFFFFFFFF#32) xa) = some 0xFF00000000000000#64 := by
  decide

theorem test_store_esr :
    after (fun u => (u.esr, u.esrPending)) (exec (.storeEsr 0xFEE00#52 1#32) (having xa fun u => { u with esrPending := 0x80#32 }))
      = some (0x80#32, 0#32) := by
  decide

theorem test_store_timer_icr :
    after (fun u => (u.timerIcr, u.running)) (exec (.storeTimerIcr 0xFEE00#52 5#32) xa) = some (5#32, true) := by
  decide

theorem test_store_lvts :
    after (fun u => u.lvtTimer.reg) (exec (.storeLvtTimer 0xFEE00#52 0xFFFFFFFF#32) xa) = some 0x000300FF#32
    ∧ after (fun u => u.lvtThermal.reg) (exec (.storeLvtThermal 0xFEE00#52 0xFFFFFFFF#32) xa) = some 0x000107FF#32
    ∧ after (fun u => u.lvtPmr.reg) (exec (.storeLvtPmr 0xFEE00#52 0xFFFFFFFF#32) xa) = some 0x000107FF#32
    ∧ after (fun u => u.lvtLint0.reg) (exec (.storeLvtLint0 0xFEE00#52 0xFFFFFFFF#32) xa) = some 0x0001A7FF#32
    ∧ after (fun u => u.lvtLint1.reg) (exec (.storeLvtLint1 0xFEE00#52 0xFFFFFFFF#32) xa) = some 0x0001A7FF#32
    ∧ after (fun u => u.lvtError.reg) (exec (.storeLvtError 0xFEE00#52 0xFFFFFFFF#32) xa) = some 0x000100FF#32 := by
  decide

theorem test_illegal_stores_are_logged :
    [Instr.storeReserved 0xFEE00#52 0x3F#8 0x40#32, .storeVer 0xFEE00#52 0#32, .storeApr 0xFEE00#52 0#32,
      .storePpr 0xFEE00#52 0#32, .storeRrr 0xFEE00#52 0#32, .storeTimerCcr 0xFEE00#52 0#32, .storeIsrk 0xFEE00#52 0#3 0#32,
      .storeTmrk 0xFEE00#52 0#3 0#32, .storeIrrk 0xFEE00#52 0#3 0#32].map (fun i => after Apic.esrPending (exec i xa))
      = List.replicate 9 (some 0x80#32) := by
  decide

theorem test_store_icr_low_sends :
    flight (exec (.storeIcrLo 0xFEE00#52 0x4031#32) (having xa fun u => { u with icr := 0x2500000000000000#64 }))
      = some [(0x125#32, 0x31#8)] := by
  decide

theorem test_mmio_refused_in_x2apic_mode :
    refusal (exec (.loadVer 0xFEE00#52) x2) = some .mmioOutsideXapicMode := by
  decide

theorem test_mmio_refused_for_another_page :
    refusal (exec (.storeTpr 0xFEE01#52 0#32) xa) = some .notTheApicPage := by
  decide

/-! ### Witnesses: the hypotheses of each statement of Obligations.lean are met, clause by clause -/

theorem witness_EncodeThenDecode :
    [Instr.rdmsrTpr, .wrmsrIcr 0#64, .rdmsrIsrk 7#3, .rdmsrReserved 0x040#10, .wrmsrReserved 0x3FF#10 1#64,
      .loadReserved 0xFEE00#52 0x01#8, .loadReserved 0xFEE00#52 0x04#8, .loadReserved 0xFEE00#52 0x2F#8,
      .storeReserved 0xFEE00#52 0x3D#8 0#32, .storeReserved 0xFEE00#52 0xFF#8 0#32, .cpuid0bh 0#32, .x86Cpuid].all
      Instr.wf = true := by
  decide

theorem witness_DecodeThenEncode :
    decode (.msrR 0xBFF#32) = .ok (.rdmsrReserved 0x3FF#10)
    ∧ decode (.mmioW 0xFEE00FF0#64 4 1#32) = .ok (.storeReserved 0xFEE00#52 0xFF#8 1#32) := by
  refine ⟨by rfl, by rfl⟩

/-- The state in which only this event remains to happen. -/
def doing (e : Event) (s : State) : State := { s with schedule := [e] }

theorem quiet_boundary (s : State) (h : s.self.core.tprBoundary = false) : noInterruptDue s := by
  intro ht
  rw [h] at ht
  cases ht

theorem witness_StepRunsDecodedAccess :
    (doing (.access 3#2 (.msrR 0x802#32)) x2).schedule = .access 3#2 (.msrR 0x802#32) :: []
    ∧ noInterruptDue (doing (.access 3#2 (.msrR 0x802#32)) x2) ∧ decode (.msrR 0x802#32) = .ok .rdmsrId
    ∧ noInterruptDue State.reset ∧ decodeTableWord 32 0x802 = some .rdmsrId :=
  ⟨rfl, quiet_boundary _ rfl, rfl, quiet_boundary _ rfl, rfl⟩

theorem witness_AccessesOutsideTheMap :
    (doing (.access 0#2 (.msrR 0x7FF#32)) x2).schedule = .access 0#2 (.msrR 0x7FF#32) :: []
    ∧ noInterruptDue (doing (.access 0#2 (.msrR 0x7FF#32)) x2)
    ∧ (0x7FF#32 ≠ 0x1B#32 ∧ ¬ inMsrRange 0x7FF#32) ∧ (0xC00#32 ≠ 0x1B#32 ∧ ¬ inMsrRange 0xC00#32)
    ∧ (3 ≠ 4 ∧ 8 ≠ 4)
    ∧ ((0xFEE00021#64 : W64).toNat % 16 ≠ 0 ∧ (0xFEE0002F#64 : W64).toNat % 16 ≠ 0)
    ∧ (0x0A#32 ≠ 0x01#32 ∧ 0x0A#32 ≠ 0x0B#32)
    ∧ [0x0F#8, 0x31#8] ∉ [[0x0F#8, 0x32#8], [0x0F#8, 0x30#8], [0x0F#8, 0xA2#8]] := by
  refine ⟨rfl, quiet_boundary _ rfl, ?_, ?_, ?_, ?_, ?_, ?_⟩ <;> (try unfold inMsrRange) <;> decide

/-- A unit with an offered interrupt at the boundary after a TPR write. -/
def promised (e : Event) : State :=
  doing e (having x2 fun u =>
    { u with irr := bitOf 0x41#8, core := { u.core with intEnabled := true, tprBoundary := true } })

theorem witness_TprWriteIsReflectedBeforeTheNextInstruction :
    (promised (.coreRuns 0#32 0#32 0#32 0#32 true)).schedule = .coreRuns 0#32 0#32 0#32 0#32 true :: []
    ∧ isInstruction (.coreRuns 0#32 0#32 0#32 0#32 true) = true
    ∧ (promised (.coreRuns 0#32 0#32 0#32 0#32 true)).self.core.tprBoundary = true
    ∧ (promised (.coreRuns 0#32 0#32 0#32 0#32 true)).self.core.intEnabled = true
    ∧ offered (promised (.coreRuns 0#32 0#32 0#32 0#32 true)).self = some 0x41#8
    ∧ standard (promised (.coreRuns 0#32 0#32 0#32 0#32 true)).self := by
  unfold standard
  decide

theorem isHighest_bitOf_40 : isHighest (bitOf 0x40#8) 0x40#8 := by
  unfold isHighest
  decide

theorem witness_OfferIsHighestAbovePriority :
    standard x2.self ∧ inService { x2.self with isr := bitOf 0x40#8, irr := bitOf 0x51#8 } 0x40#8
    ∧ inService x2.self 0#8 :=
  ⟨rfl, .inl isHighest_bitOf_40, .inr ⟨rfl, rfl⟩⟩

/-- A unit whose core's interrupts are on, about to take one. -/
def taking (irr : Bits256) (sampled : Bool) : State :=
  doing .take (having x2 fun u =>
    { u with irr := irr, core := { u.core with intEnabled := true, sampled := sampled } })

theorem witness_TakingAnInterrupt :
    ((taking (bitOf 0x40#8) false).schedule = .take :: [] ∧ (taking (bitOf 0x40#8) false).self.core.intEnabled = true
      ∧ offered (taking (bitOf 0x40#8) false).self = some 0x40#8 ∧ standard (taking (bitOf 0x40#8) false).self)
    ∧ (offered (taking 0#256 true).self = none ∧ (taking 0#256 true).self.core.sampled = true)
    ∧ (offered (taking 0#256 false).self = none ∧ (taking 0#256 false).self.core.sampled = false)
    ∧ (doing .take x2).self.core.intEnabled = false := by
  unfold standard
  decide

theorem witness_ReservedAddressesRaiseGp :
    ((0x840 ≤ (0x840#32 : W32).toNat ∧ (0x840#32 : W32).toNat ≤ 0xBFF)
      ∧ (0x840 ≤ (0xBFF#32 : W32).toNat ∧ (0xBFF#32 : W32).toNat ≤ 0xBFF)) ∧ (reservedRows 0#64).length = 4 := by
  decide

theorem witness_ForbiddenAccessesRaiseGp :
    x2.self.hw.hasLvtCmci = false ∧ (otherReservedRows 0#64).length = 16 ∧ (readOnlyWrites 7#3 0#64).length = 8 := by
  decide

theorem witness_MsrsFaultOutsideX2apicMode :
    xa.self.mode ≠ .x2apic ∧ off.self.mode ≠ .x2apic ∧ inMsrRange 0x800#32 ∧ inMsrRange 0xBFF#32 := by
  unfold inMsrRange
  decide

/-- The unit with its core at CPL 1. -/
def atCpl1 (s : State) : State := having s fun u => { u with core := { u.core with cpl := 1#2 } }

theorem witness_MsrsFaultAboveCplZero :
    (atCpl1 x2).self.core.cpl ≠ 0#2 ∧ decode (.msrR 0x1B#32) = .ok .rdmsrIa32ApicBase
    ∧ decode (.msrW 0x838#32 1#64) = .ok (.wrmsrTimerIcr 1#64) :=
  ⟨by decide, rfl, rfl⟩

theorem hears_x2 : hears x2 := ⟨rfl, rfl⟩

theorem atPage_xa : atPage 0xFEE00#52 xa := ⟨rfl, rfl⟩

theorem witness_UpperHalfOfTheDataWordIsReserved :
    (inMsrRange 0x808#32 ∧ 0x808#32 ≠ 0x830#32)
    ∧ ((0x0000000100000000#64 : W64).extractLsb' 32 32 ≠ 0#32
      ∧ decode (.msrW 0x808#32 0x0000000100000000#64) = .ok (.wrmsrTpr 0x0000000100000000#64))
    ∧ decode (.msrR 0x808#32) = .ok .rdmsrTpr
    ∧ exec .rdmsrTpr x2 = .next (withAnswer (.value 0#64) x2)
    ∧ (withAnswer (.value 0#64) x2).self.core.answer = .value 0#64 :=
  ⟨by unfold inMsrRange; decide, ⟨by decide, rfl⟩, rfl, rfl, rfl⟩

/-- The unit with LVT_CMCI present and faulting read-only bits. -/
def strict (s : State) : State :=
  having s fun u => { u with hw := { u.hw with hasLvtCmci := true, roBitWrite := .fault } }

theorem witness_ReservedBitsRaiseGp :
    ((writableRows 0xFFFFFFFFFFFFFFFF#64 x2.self.hw).all fun r => 0xFFFFFFFFFFFFFFFF#64 &&& r.1 != 0#64) = true
    ∧ (∀ r ∈ lvtRows x2.self.hw 0x00040000#64 0xFEE00#52 0#32,
      hasLvtRow x2.self.hw 0x00040000#64 0xFEE00#52 0#32 r)
    ∧ ((lvtRows x2.self.hw 0x00040000#64 0xFEE00#52 0#32).all fun r => 0x00040000#64 &&& wordRsvd r.rsvd != 0#64) = true
    ∧ hasLvtRow (strict x2).self.hw 0x00001000#64 0xFEE00#52 0#32
      (cmciRow (strict x2).self.hw 0x00001000#64 0xFEE00#52 0#32)
    ∧ (strict x2).self.hw.roBitWrite = .fault
    ∧ 0x00001000#64 &&& (cmciRow (strict x2).self.hw 0x00001000#64 0xFEE00#52 0#32).ro.setWidth 64 ≠ 0#64 :=
  ⟨by decide, fun _ h => .inl h, by decide, .inr ⟨rfl, rfl⟩, rfl, by decide⟩

theorem witness_EveryGpIsTheSameAndChangesNothing :
    exec .rdmsrSelfIpi x2 = .next (gp x2) ∧ (gp x2).self.core.answer = .exception 13#8 0#32 :=
  ⟨rfl, rfl⟩

/-- The next state, or the given one where there is none. -/
def nextOf (s : State) (o : Outcome) : State :=
  match o with
  | .next t => t
  | .fault _ => s
  | .refused _ => s

theorem witness_OnlyBaseWritesChangeTheMode :
    (exec (.wrmsrIa32ApicBase 0x00000000FEE00D00#64) xa
        = .next (nextOf xa (exec (.wrmsrIa32ApicBase 0x00000000FEE00D00#64) xa))
      ∧ (nextOf xa (exec (.wrmsrIa32ApicBase 0x00000000FEE00D00#64) xa)).self.base ≠ xa.self.base) :=
  ⟨rfl, by decide⟩

theorem witness_OperationsTouchOnlyTheOwnUnit :
    exec (.wrmsrIcr 0xFFFFFFFF00004831#64) four = .next (nextOf four (exec (.wrmsrIcr 0xFFFFFFFF00004831#64) four)) :=
  rfl

theorem witness_ReadsChangeNothing :
    (exec .rdmsrId x2 = .next (withAnswer (.value 0x125#64) x2) ∧ encode .rdmsrId = .msrR 0x802#32)
    ∧ (exec (.cpuid0bh 0#32) x2 = .next (withAnswer (.cpuid 1#32 2#32 0x100#32 0x125#32) x2)
      ∧ encode (.cpuid0bh 0#32) = .cpuid 0x0B#32 0#32)
    ∧ (exec (.loadVer 0xFEE00#52) xa = .next (withAnswer (.data 0x01050015#32) xa)
      ∧ encode (.loadVer 0xFEE00#52) = .mmioR 0xFEE00030#64 4)
    ∧ ((strict xa).self.hw.hasLvtCmci = true
      ∧ exec (.loadReserved 0xFEE00#52 0x2F#8) (strict xa)
        = .next (nextOf xa (exec (.loadReserved 0xFEE00#52 0x2F#8) (strict xa)))) :=
  ⟨⟨rfl, rfl⟩, ⟨rfl, rfl⟩, ⟨rfl, rfl⟩, ⟨rfl, rfl⟩⟩

theorem platformInv_alone (en extd : Bool) (h : modeOf en extd ≠ .invalid) :
    PlatformInv (alone (unit 0x125#32 en extd)) where
  self :=
    { hw := by cases en <;> cases extd <;> decide
      mode :=
        { mode := h
          bsp := rfl
          supported := fun _ => rfl
          page := by cases en <;> cases extd <;> decide }
      vectors := fun _ =>
        { irr := by cases en <;> cases extd <;> decide
          isr := by cases en <;> cases extd <;> decide
          tmr := by cases en <;> cases extd <;> decide
          disabled := fun _ => ⟨rfl, rfl, rfl⟩ }
      ids :=
        { ldr := by revert h; cases en <;> cases extd <;> decide
          xapicId := fun _ => rfl }
      reserved :=
        { svr := by cases en <;> cases extd <;> decide
          esr := by cases en <;> cases extd <;> decide
          esrPending := by cases en <;> cases extd <;> decide
          icr := by cases en <;> cases extd <;> decide
          timerDcr := by cases en <;> cases extd <;> decide
          dfr := by cases en <;> cases extd <;> decide
          lvt := by intro x; cases x <;> cases en <;> cases extd <;> decide }
      timer :=
        { bounded := by cases en <;> cases extd <;> decide
          running := by intro hr; cases hr } }
  others := by simp [alone]
  unique := by simp [hardwareIds, alone]

theorem platformInv_doing (e : Event) (s : State) (h : PlatformInv s) : PlatformInv (doing e s) :=
  ⟨h.self, h.others, h.unique⟩

theorem witness_StepKeepsTheInvariant :
    (PlatformInv (doing (.access 0#2 (.msrW 0x1B#32 0x00000000FEE00D00#64)) xa)
      ∧ step (doing (.access 0#2 (.msrW 0x1B#32 0x00000000FEE00D00#64)) xa)
        = .next (nextOf xa (step (doing (.access 0#2 (.msrW 0x1B#32 0x00000000FEE00D00#64)) xa))))
    ∧ (PlatformInv (doing .initUnit x2) ∧ step (doing .initUnit x2) = .next (nextOf x2 (step (doing .initUnit x2)))) :=
  ⟨⟨platformInv_doing _ _ (platformInv_alone true false (by decide)), rfl⟩,
    platformInv_doing _ _ (platformInv_alone true true (by decide)), rfl⟩

theorem witness_InvalidModeIsNeverReached :
    (doing .resetUnit off).self.mode ≠ .invalid ∧ (∀ u ∈ (doing .resetUnit off).others, u.mode ≠ .invalid)
    ∧ step (doing .resetUnit off) = .next (nextOf off (step (doing .resetUnit off))) :=
  ⟨by decide, by simp [doing, off, alone], rfl⟩

theorem witness_RdmsrAnswersTheRegister : hears x2 ∧ (plainReads 7#3 x2.self).length = 12 := ⟨hears_x2, rfl⟩

theorem witness_PprReadsAnswerTheProcessorPriority :
    (standard x2.self ∧ hears x2) ∧ standard xa.self ∧ atPage 0xFEE00#52 xa :=
  ⟨⟨rfl, hears_x2⟩, rfl, atPage_xa⟩

/-- PPR with equal classes: both values that the rule allows, and no third one. -/
theorem test_showsPpr_equal_classes (p : Byte)
    (h : showsPpr { x2.self with tpr := 0x4F#8, isr := bitOf 0x40#8 } p) : p = 0x4F#8 ∨ p = 0x40#8 :=
  (h 0x40#8 (.inl isHighest_bitOf_40)).2.1 (by decide)

theorem witness_IcrReadAnswersAnOpenValue : hears x2 := hears_x2

theorem witness_LvtReadsAnswerTheEntry :
    (∀ r ∈ lvtRows x2.self.hw 0#64 0xFEE00#52 0#32, hasLvtRow x2.self.hw 0#64 0xFEE00#52 0#32 r)
    ∧ hasLvtRow (strict x2).self.hw 0#64 0xFEE00#52 0#32 (cmciRow (strict x2).self.hw 0#64 0xFEE00#52 0#32)
    ∧ hears (strict x2) ∧ atPage 0xFEE00#52 (strict xa) ∧ ∀ x, nonePending x x2 :=
  ⟨fun _ h => .inl h, .inr ⟨rfl, rfl⟩, ⟨rfl, rfl⟩, ⟨rfl, rfl⟩,
    fun x => ⟨by cases x <;> decide, fun _ h => by cases h⟩⟩

theorem witness_WrmsrWritesTheRegister :
    hears x2 ∧ ((plainWrites 0#64 x2.self).all fun r => 0#64 &&& r.1 == 0#64) = true
    ∧ ([0xFF#64, 0x11FF#64, 0#64, 0xFFFFFFFF#64, 0xB#64].zipWith (fun val n =>
        ((plainWrites val x2.self)[n]?.map fun r => val &&& r.1 == 0#64).getD false) [0, 1, 2, 3, 4]).all id = true :=
  ⟨hears_x2, by decide, by decide⟩

theorem witness_LvtWritesStoreTheWritableBits :
    (∀ r ∈ lvtRows x2.self.hw 0x1000#64 0xFEE00#52 0#32, hasLvtRow x2.self.hw 0x1000#64 0xFEE00#52 0#32 r)
    ∧ ((lvtRows x2.self.hw 0x1000#64 0xFEE00#52 0#32).all fun r => 0x1000#64 &&& wordRsvd r.rsvd == 0#64) = true
    ∧ x2.self.hw.roBitWrite = .ignore ∧ hears x2 ∧ atPage 0xFEE00#52 xa
    ∧ (hears (strict x2)
      ∧ hasLvtRow (strict x2).self.hw 0x107FF#64 0xFEE00#52 0#32 (cmciRow (strict x2).self.hw 0x107FF#64 0xFEE00#52 0#32)
      ∧ 0x107FF#64 &&& wordRsvd (cmciRow (strict x2).self.hw 0x107FF#64 0xFEE00#52 0#32).rsvd = 0#64
      ∧ 0x107FF#64 &&& (cmciRow (strict x2).self.hw 0x107FF#64 0xFEE00#52 0#32).ro.setWidth 64 = 0#64) :=
  ⟨fun _ h => .inl h, by decide, rfl, hears_x2, atPage_xa, ⟨rfl, rfl⟩, .inr ⟨rfl, rfl⟩, by decide, by decide⟩

theorem witness_EoiWritesSignalTheEnd :
    (standard x2.self ∧ hears x2) ∧ (standard xa.self ∧ atPage 0xFEE00#52 xa) ∧ x2.self.isr = 0#256
    ∧ isHighest (having x2 fun u => { u with isr := bitOf 0x40#8 }).self.isr 0x40#8 :=
  ⟨⟨rfl, hears_x2⟩, ⟨rfl, atPage_xa⟩, rfl, isHighest_bitOf_40⟩

theorem witness_IcrWriteSends :
    hears four ∧ (0x0001000300004810#64 : W64).setWidth 32 &&& four.self.hw.rsvd.icr = 0#32
    ∧ sendable (commandFields ((0x0001000300004810#64 >>> 32).setWidth 32) ((0x0001000300004810#64 : W64).setWidth 32))
    ∧ sendable (commandFields 1#32 0x00004500#32) := by
  refine ⟨⟨rfl, rfl⟩, ?_, ?_, ?_⟩ <;> (try unfold sendable) <;> decide

theorem witness_TargetsOfACommand :
    four.self.mode = .x2apic ∧ (∀ u ∈ four.others, u.mode = .x2apic)
    ∧ (commandFields 0#32 0x00044040#32).sh = 1#2 ∧ (commandFields 0#32 0x00084040#32).sh = 2#2
    ∧ (commandFields 0#32 0x000C4040#32).sh = 3#2
    ∧ ((commandFields 0xFFFFFFFF#32 0x4031#32).sh = 0#2 ∧ (commandFields 0xFFFFFFFF#32 0x4031#32).dest = 0xFFFFFFFF#32)
    ∧ ((commandFields 0xFFFFFFFE#32 0x4031#32).dest ≠ 0xFFFFFFFF#32 ∧ (commandFields 0xFFFFFFFE#32 0x4031#32).dmode = false)
    ∧ (commandFields 0x10003#32 0x4831#32).dmode = true := by
  decide

theorem witness_LowestPriorityIsLoggedNotSent :
    hears four ∧ (0x0000000100004131#64 : W64).setWidth 32 &&& four.self.hw.rsvd.icr = 0#32
    ∧ (0x0000000100004131#64 : W64).extractLsb' 8 3 = 1#3 :=
  ⟨⟨rfl, rfl⟩, by decide, by decide⟩

theorem witness_IllegalVectorSendIsLogged :
    hears four ∧ (0x000000010000400F#64 : W64).setWidth 32 &&& four.self.hw.rsvd.icr = 0#32
    ∧ (0x000000010000400F#64 : W64).extractLsb' 8 3 = 0#3
    ∧ ((0x000000010000400F#64 : W64).extractLsb' 0 8).toNat < 16
    ∧ (15#64 : W64).toNat < 16 ∧ (15#64 : W64).setWidth 32 &&& four.self.hw.rsvd.selfIpi = 0#32 :=
  ⟨⟨rfl, rfl⟩, by decide, by decide, by decide, by decide, by decide⟩

theorem witness_ReservedDeliveryModesAreRefused :
    (hears x2 ∧ (0x4331#64 : W64).setWidth 32 &&& x2.self.hw.rsvd.icr = 0#32 ∧ (0x4331#64 : W64).extractLsb' 8 3 = 3#3
      ∧ (0x4731#64 : W64).setWidth 32 &&& x2.self.hw.rsvd.icr = 0#32 ∧ (0x4731#64 : W64).extractLsb' 8 3 = 7#3)
    ∧ atPage 0xFEE00#52 xa ∧ (0x4331#32 &&& ~~~xa.self.hw.rsvd.icr).extractLsb' 8 3 = 3#3
    ∧ (0x4731#32 &&& ~~~xa.self.hw.rsvd.icr).extractLsb' 8 3 = 7#3 :=
  ⟨⟨hears_x2, by decide, by decide, by decide, by decide⟩, atPage_xa, by decide, by decide⟩

theorem witness_SelfIpiWriteSendsToItself :
    hears x2 ∧ 16 ≤ (0x10#8 : Byte).toNat ∧ (0x10#8 : Byte).setWidth 32 &&& x2.self.hw.rsvd.selfIpi = 0#32 :=
  ⟨hears_x2, by decide, by decide⟩

theorem witness_SelfIpiIsTheIcrSelfSend :
    hears x2 ∧ (0xFF#8 : Byte).setWidth 32 &&& x2.self.hw.rsvd.selfIpi = 0#32
    ∧ (0x00044000#32 ||| (0xFF#8 : Byte).setWidth 32) &&& x2.self.hw.rsvd.icr = 0#32 :=
  ⟨hears_x2, by decide, by decide⟩

theorem witness_BaseReadAnswersTheFields : x2.self.core.cpl = 0#2 ∧ off.self.core.cpl = 0#2 := ⟨rfl, rfl⟩

theorem witness_InvalidCombinationRaisesGp :
    (0x00000000FEE00500#64 : W64).getLsbD 11 = false ∧ (0x00000000FEE00500#64 : W64).getLsbD 10 = true := by
  decide

/-- A unit without x2APIC support. -/
def old : State := having xa fun u => { u with hw := { u.hw with x2apicSupported := false } }

theorem witness_IllegalBaseWritesRaiseGp :
    (0x00000000FEE00D01#64 : W64).extractLsb' 0 8 ≠ 0#8 ∧ (0x00000000FEE00F00#64 : W64).getLsbD 9 = true
    ∧ 2 ^ xa.self.hw.maxPhyAddr ≤ (0x0000001000000900#64 : W64).toNat
    ∧ ((0x00000000FEE00D00#64 : W64).getLsbD 8 = old.self.base.bsp ∧ (0x00000000FEE00D00#64 : W64).getLsbD 10 = true
      ∧ old.self.hw.x2apicSupported = false)
    ∧ ((0x00000000FEE00900#64 : W64).getLsbD 8 = x2.self.base.bsp ∧ x2.self.mode = .x2apic
      ∧ (0x00000000FEE00900#64 : W64).getLsbD 11 = true ∧ (0x00000000FEE00900#64 : W64).getLsbD 10 = false)
    ∧ ((0x00000000FEE00D00#64 : W64).getLsbD 8 = off.self.base.bsp ∧ off.self.mode = .disabled
      ∧ (0x00000000FEE00D00#64 : W64).getLsbD 11 = true ∧ (0x00000000FEE00D00#64 : W64).getLsbD 10 = true) := by
  decide

/-- The unit with an interrupt pending. -/
def pending (s : State) : State := having s fun u => { u with irr := bitOf 0x40#8 }

theorem witness_RefusedBaseWrites :
    (cleanBase 0x00000000FEE00C00#64 xa ∧ (0x00000000FEE00C00#64 : W64).getLsbD 8 ≠ xa.self.base.bsp
      ∧ ((0x00000000FEE00C00#64 : W64).getLsbD 10 = true → (0x00000000FEE00C00#64 : W64).getLsbD 11 = true))
    ∧ (cleanBase 0x00000000FEE00800#64 x2 ∧ (0x00000000FEE00800#64 : W64).getLsbD 8 ≠ x2.self.base.bsp
      ∧ ((0x00000000FEE00800#64 : W64).getLsbD 10 = true → (0x00000000FEE00800#64 : W64).getLsbD 11 = true))
    ∧ (cleanBase 0x00000000FEE00D00#64 (pending xa) ∧ legalTransition 0x00000000FEE00D00#64 (pending xa)
      ∧ (0x00000000FEE00D00#64 : W64).getLsbD 8 = (pending xa).self.base.bsp ∧ (pending xa).self.irr ≠ 0#256
      ∧ (0x00000000FEE00D00#64 : W64).getLsbD 10 ≠ (pending xa).self.base.extd) := by
  unfold cleanBase legalTransition
  decide

theorem not_quiet_pending : ¬ quiet (pending xa) := fun h => absurd h.1 (by decide)

theorem witness_BaseWriteThatKeepsTheMode :
    admittedBase 0x0000000FFFFFFD00#64 x2 ∧ x2.self.mode ≠ .invalid
    ∧ (0x0000000FFFFFFD00#64 : W64).getLsbD 11 = x2.self.base.en
    ∧ (0x0000000FFFFFFD00#64 : W64).getLsbD 10 = x2.self.base.extd := by
  unfold admittedBase cleanBase
  decide

theorem quiet_alone (en extd : Bool) : quiet (alone (unit 0x125#32 en extd)) :=
  ⟨rfl, rfl, fun _ h => by cases h⟩

theorem witness_EnteringX2apicMode :
    admittedBase 0x00000000FEE00D00#64 xa ∧ xa.self.mode = .xapic ∧ quiet xa
    ∧ (0x00000000FEE00D00#64 : W64).getLsbD 11 = true ∧ (0x00000000FEE00D00#64 : W64).getLsbD 10 = true :=
  ⟨by unfold admittedBase cleanBase; decide, rfl, quiet_alone _ _, by decide, by decide⟩

theorem witness_EnteringDisabled :
    admittedBase 0x00000000FEE00100#64 xa ∧ admittedBase 0x00000000FEE00100#64 x2 ∧ xa.self.mode = .xapic
    ∧ x2.self.mode = .x2apic ∧ quiet xa ∧ quiet x2 ∧ (0x00000000FEE00100#64 : W64).getLsbD 11 = false
    ∧ (0x00000000FEE00100#64 : W64).getLsbD 10 = false :=
  ⟨by unfold admittedBase cleanBase; decide, by unfold admittedBase cleanBase; decide, rfl, rfl, quiet_alone _ _,
    quiet_alone _ _, by decide, by decide⟩

theorem witness_LeavingDisabled :
    admittedBase 0x00000000FEE00900#64 off ∧ off.self.mode = .disabled ∧ quiet off
    ∧ (0x00000000FEE00900#64 : W64).getLsbD 11 = true ∧ (0x00000000FEE00900#64 : W64).getLsbD 10 = false :=
  ⟨by unfold admittedBase cleanBase; decide, rfl, quiet_alone _ _, by decide, by decide⟩

theorem witness_LogicalIdOfAUnit : hears x2 ∧ IdInv x2.self ∧ 15 < 16 ∧ 0 < 16 :=
  ⟨hears_x2, (platformInv_alone true true (by decide)).self.ids, by decide, by decide⟩

theorem witness_CpuidReportsTheIdentity :
    x2.self.hw.cpuid0B.find? (fun l => l.number == 1#32)
      = some { number := 1#32, shift := 4#5, count := 8#16, kind := 2#8 }
    ∧ ∀ l ∈ x2.self.hw.cpuid0B, l.number ≠ 2#32 := by
  decide

theorem witness_CpuidAgreesWithTheIdRegister : x2.self.hw.wf = true ∧ hears x2 := ⟨by decide, hears_x2⟩

theorem witness_LoadAnswersTheRegister : atPage 0xFEE00#52 xa ∧ (plainLoads 0xFEE00#52 7#3 xa.self).length = 14 :=
  ⟨atPage_xa, rfl⟩

theorem witness_StoreWritesTheRegister :
    atPage 0xFEE00#52 xa ∧ (plainStores 0xFEE00#52 0xFFFFFFFF#32 xa.self).length = 9 :=
  ⟨atPage_xa, rfl⟩

theorem witness_OpenAndIllegalMmioAccesses :
    atPage 0xFEE00#52 xa ∧ (isReservedSlot 0x04#8 = true ∧ 0x04#8 ≠ 0x2F#8)
    ∧ (isReservedSlot 0x2F#8 = true ∧ xa.self.hw.hasLvtCmci = false)
    ∧ (isReservedSlot 0x3F#8 = true ∧ isReservedSlot 0x40#8 = true ∧ isReservedSlot 0xFF#8 = true)
    ∧ (illegalStores 0xFEE00#52 7#3 0#32).length = 8 :=
  ⟨atPage_xa, by decide, by decide, by decide, rfl⟩

theorem witness_StoreToIcrLowSends :
    atPage 0xFEE00#52 xa
    ∧ sendable (commandFields ((xa.self.icr >>> 56).setWidth 32) (0x4010#32 &&& ~~~xa.self.hw.rsvd.icr))
    ∧ (commandFields ((xa.self.icr >>> 56).setWidth 32) (0x4131#32 &&& ~~~xa.self.hw.rsvd.icr)).del = 1#3
    ∧ ((commandFields ((xa.self.icr >>> 56).setWidth 32) (0x400F#32 &&& ~~~xa.self.hw.rsvd.icr)).del = 0#3
      ∧ (commandFields ((xa.self.icr >>> 56).setWidth 32) (0x400F#32 &&& ~~~xa.self.hw.rsvd.icr)).vec.toNat < 16) :=
  ⟨atPage_xa, by unfold sendable; decide, by decide, by decide⟩

theorem witness_MmioIsRefusedOutsideXapicMode :
    encode (.loadVer 0xFEE00#52) = .mmioR 0xFEE00030#64 4
    ∧ encode (.storeTpr 0xFEE01#52 0#32) = .mmioW 0xFEE01080#64 4 0#32
    ∧ x2.self.mode ≠ .xapic ∧ off.self.mode ≠ .xapic
    ∧ xa.self.mode = .xapic ∧ ((0xFEE01080#64 : W64) >>> 12).setWidth 52 ≠ xa.self.base.page :=
  ⟨rfl, rfl, by decide, by decide, rfl, by decide⟩

/-- A unit with these core registers. -/
def withRegisters (eax ecx : W32) : State :=
  having x2 fun u => { u with core := { u.core with eax := eax, ecx := ecx } }

theorem witness_CoreInstructionsDoWhatTheirRowsDo :
    (withRegisters 0#32 0x1B#32).self.core.cpl = 0#2 ∧ (withRegisters 0#32 0x1B#32).self.core.ecx = 0x1B#32
    ∧ inMsrRange (withRegisters 0#32 0x802#32).self.core.ecx ∧ (withRegisters 0#32 0x802#32).self.core.ecx ≠ 0x830#32
    ∧ decode (.msrW (withRegisters 0#32 0x1B#32).self.core.ecx ((withRegisters 0#32 0x1B#32).self.core.edx
        ++ (withRegisters 0#32 0x1B#32).self.core.eax)) = .ok (.wrmsrIa32ApicBase 0#64)
    ∧ (withRegisters 0x01#32 0#32).self.core.eax = 0x01#32 ∧ (withRegisters 0x0B#32 0#32).self.core.eax = 0x0B#32
    ∧ ((withRegisters 0#32 0x7FF#32).self.core.ecx ≠ 0x1B#32 ∧ ¬ inMsrRange (withRegisters 0#32 0x7FF#32).self.core.ecx)
    ∧ ((withRegisters 0x0A#32 0#32).self.core.eax ≠ 0x01#32 ∧ (withRegisters 0x0A#32 0#32).self.core.eax ≠ 0x0B#32) :=
  ⟨rfl, rfl, by unfold inMsrRange; decide, by decide, rfl, rfl, rfl, by unfold inMsrRange; decide, by decide⟩

/-- A message of this delivery mode and vector to unit `dst`. -/
def messageOf (dst : W32) (del : BitVec 3) (vec : Byte) : Msg :=
  { src := 0#32, dst := dst, del := del, vec := vec, trig := true, level := true, origin := .sent }

/-- The platform of four with the message about to be delivered. -/
def delivering (m : Msg) : State := { doing (.deliver 0) four with inflight := [m] }

/-- The first other unit of x2APIC ID 10H is the one at index 1. -/
theorem four_second (j' : Nat) (hj : j' < 1) (w' : Apic) (h : four.others[j']? = some w') : w'.x2apicId ≠ 0x10#32 := by
  have h0 : j' = 0 := by omega
  subst h0
  cases h
  decide

theorem witness_DeliveryReachesItsTarget :
    (delivering (messageOf 0x10#32 0#3 0x10#8)).schedule = .deliver 0 :: []
    ∧ (delivering (messageOf 0x10#32 0#3 0x10#8)).inflight[0]? = some (messageOf 0x10#32 0#3 0x10#8)
    ∧ ((messageOf 0#32 0#3 0x10#8).dst = four.self.x2apicId ∧ 16 ≤ (messageOf 0#32 0#3 0x10#8).vec.toNat
      ∧ accepts four.self ∧ standard four.self)
    ∧ (0x10#32 : W32) ≠ four.self.x2apicId
    ∧ (four.others[1]? = some (unit 0x10#32 true true) ∧ (unit 0x10#32 true true).x2apicId = 0x10#32
      ∧ ∀ j' < 1, ∀ w', four.others[j']? = some w' → w'.x2apicId ≠ 0x10#32)
    ∧ ((∀ w ∈ four.others, w.x2apicId ≠ 0x77#32) ∧ (0x77#32 : W32) ≠ four.self.x2apicId)
    ∧ ((4#3 : BitVec 3) ≠ 0#3 ∧ (4#3 : BitVec 3) ≠ 1#3 ∧ (4#3 : BitVec 3) ≠ 5#3)
    ∧ (doing (.deviceMessage 0#3 0x10#8 true) x2).schedule = .deviceMessage 0#3 0x10#8 true :: [] := by
  refine ⟨rfl, rfl, ⟨by decide, by decide, by unfold accepts; decide, rfl⟩, by decide,
    ⟨rfl, by decide, fun j' hj w' h => four_second j' hj w' h⟩, ⟨by decide, by decide⟩, by decide, rfl⟩

theorem witness_IllegalVectorReceivedIsLogged :
    (delivering (messageOf 0#32 0#3 0x0F#8)).schedule = .deliver 0 :: []
    ∧ (delivering (messageOf 0#32 0#3 0x0F#8)).inflight[0]? = some (messageOf 0#32 0#3 0x0F#8)
    ∧ (messageOf 0#32 0#3 0x0F#8).dst = (delivering (messageOf 0#32 0#3 0x0F#8)).self.x2apicId
    ∧ (messageOf 0#32 0#3 0x0F#8).del = 0#3 ∧ (messageOf 0#32 0#3 0x0F#8).vec.toNat < 16
    ∧ standard four.self
    ∧ (delivering (messageOf 0x10#32 0#3 0x0F#8)).inflight[0]? = some (messageOf 0x10#32 0#3 0x0F#8)
    ∧ (messageOf 0x10#32 0#3 0x0F#8).dst ≠ (delivering (messageOf 0x10#32 0#3 0x0F#8)).self.x2apicId
    ∧ (four.others[1]? = some (unit 0x10#32 true true) ∧ (unit 0x10#32 true true).x2apicId = 0x10#32
      ∧ ∀ j' < 1, ∀ w', four.others[j']? = some w' → w'.x2apicId ≠ 0x10#32)
    ∧ standard (unit 0x10#32 true true) :=
  ⟨rfl, rfl, by decide, rfl, by decide, rfl, rfl, by decide,
    ⟨rfl, by decide, fun j' hj w' h => four_second j' hj w' h⟩, rfl⟩

theorem witness_TimerTick :
    (expiring 0x10#32).schedule = .tick :: [] ∧ (doing .tick x2).self.running = false
    ∧ (expiring 0x10#32).self.running = true ∧ (expiring 0x10#32).self.count = 1#32
    ∧ 1 < (having (expiring 0#32) fun u => { u with count := 2#32 }).self.count.toNat
    ∧ (expiring 0x10030#32).self.lvtTimer.reg.getLsbD 16 = true
    ∧ (expiring 0x10#32).self.lvtTimer.reg.getLsbD 16 = false
    ∧ 16 ≤ ((expiring 0x10#32).self.lvtTimer.reg.setWidth 8).toNat ∧ accepts (expiring 0x10#32).self := by
  unfold accepts
  decide

/-- A unit whose timer runs with this divide register and fraction, about to be clocked. -/
def clocked (dcr : W32) (frac : Nat) : State :=
  doing .clock (having x2 fun u => { u with timerDcr := dcr, frac := frac, count := 5#32, running := true })

theorem test_clock_divides_by_four :
    after (fun u => (u.count, u.frac)) (step (clocked 1#32 2)) = some (5#32, 3)
    ∧ after (fun u => (u.count, u.frac)) (step (clocked 1#32 3)) = some (4#32, 0) := by
  decide

theorem witness_TimerClockDivides :
    (clocked 0xA#32 0).schedule = .clock :: [] ∧ (doing .clock x2).self.running = false
    ∧ (clocked 0xA#32 0).self.running = true
    ∧ (clocked 0xA#32 126).self.frac + 1 < clocksPerTick (clocked 0xA#32 126).self.timerDcr
    ∧ clocksPerTick (clocked 0xA#32 127).self.timerDcr ≤ (clocked 0xA#32 127).self.frac + 1 := by
  decide

/-- A unit whose LINT0 entry is this one, about to fire. -/
def pulled (reg : W32) : State :=
  doing (.source .lint0) (having x2 fun u => { u with lvtLint0 := { reg := reg, raised := 0#256 } })

theorem witness_LocalSourceFires :
    (pulled 0x8010#32).schedule = .source .lint0 :: [] ∧ LocalSource.lint0 ≠ .cmci
    ∧ ((pulled 0x18010#32).self.lvt LocalSource.lint0.entry).reg.getLsbD 16 = true
    ∧ (((pulled 0x8010#32).self.lvt LocalSource.lint0.entry).reg.getLsbD 16 = false
      ∧ ((pulled 0x8010#32).self.lvt LocalSource.lint0.entry).reg.extractLsb' 8 3 = 0#3)
    ∧ (((pulled 0x500#32).self.lvt LocalSource.lint0.entry).reg.getLsbD 16 = false
      ∧ ((pulled 0x500#32).self.lvt LocalSource.lint0.entry).reg.extractLsb' 8 3 ≠ 0#3)
    ∧ x2.self.hw.hasLvtCmci = false ∧ (strict x2).self.hw.hasLvtCmci = true := by
  decide

theorem witness_ResetOfAUnit : (doing .resetUnit x2).schedule = .resetUnit :: [] := rfl

theorem witness_InitOfAUnit :
    (doing .initUnit x2).schedule = .initUnit :: [] ∧ (doing .initUnit off).self.mode = .disabled
    ∧ (doing .initUnit x2).self.mode = .x2apic ∧ (doing .initUnit xa).self.mode = .xapic
    ∧ ((delivering (messageOf 0#32 5#3 0#8)).schedule = .deliver 0 :: []
      ∧ (delivering (messageOf 0#32 5#3 0#8)).inflight[0]? = some (messageOf 0#32 5#3 0#8)
      ∧ (messageOf 0#32 5#3 0#8).del = 5#3 ∧ (messageOf 0#32 5#3 0#8).dst = four.self.x2apicId)
    ∧ ((messageOf 0x10#32 5#3 0#8).dst ≠ four.self.x2apicId ∧ four.others[1]? = some (unit 0x10#32 true true)
      ∧ (unit 0x10#32 true true).x2apicId = (messageOf 0x10#32 5#3 0#8).dst
      ∧ ∀ j' < 1, ∀ w', four.others[j']? = some w' → w'.x2apicId ≠ (messageOf 0x10#32 5#3 0#8).dst)
    ∧ (doing (.deviceMessage 5#3 0#8 true) x2).schedule = .deviceMessage 5#3 0#8 true :: [] :=
  ⟨rfl, rfl, rfl, rfl, ⟨rfl, rfl, rfl, by decide⟩,
    ⟨by decide, rfl, by decide, fun j' hj w' h => four_second j' hj w' h⟩, rfl⟩

end Sys2Proof.Tests
end

section
/-! PROOFS. No unit is ever in the Invalid mode (10_state.md R25). Two things only
write a unit's mode MSR: RESET, which gives xAPIC mode, and the write of IA32_APIC_BASE, which raises GP(0) for the pair
EN=0, EXTD=1 before anything is stored (40_enable_and_mode.md R143). Everything else leaves each unit's as it was
(`SameModes`), or exchanges the acting unit with another one (`swapWith`). -/

namespace Sys2Proof.Machine

/-! ### States with the same mode MSRs -/

/-- `t` has the mode MSR of `s` in the acting unit, and the same other units. -/
structure SameModes (s t : State) : Prop where
  base : t.self.base = s.self.base
  others : t.others = s.others

theorem SameModes.refl (s : State) : SameModes s s := ⟨rfl, rfl⟩

theorem SameModes.trans {s t u : State} (h : SameModes s t) (k : SameModes t u) : SameModes s u :=
  ⟨k.base.trans h.base, k.others.trans h.others⟩

theorem Kept.sameModes {s t : State} (h : Kept s t) : SameModes s t := ⟨h.base, h.others⟩

theorem SameModes.answered {s t : State} (h : SameModes s t) (a : Answer) : SameModes s (t.answered a) :=
  ⟨h.base, h.others⟩

theorem mapSelf_sameModes {f : Apic → Apic} {s : State} (h : (f s.self).base = s.self.base) :
    SameModes s (s.mapSelf f) :=
  ⟨h, rfl⟩

/-! ### The write rules of the registers -/

theorem eoi_sameModes (s : State) : SameModes s (eoi s) := by
  unfold eoi
  dsimp only
  split <;> exact ⟨rfl, rfl⟩

theorem storeLvt_sameModes (x : LvtId) (v : W32) (s : State) : SameModes s (storeLvt x v s) :=
  mapSelf_sameModes (Apic.withLvt_base _ _ _)

theorem writeIcr_sameModes (val : W64) (s : State) : SameModes s (writeIcr val s) := by
  have hstored : SameModes s (s.mapSelf fun u => { u with icr := val }) := ⟨rfl, rfl⟩
  unfold writeIcr
  dsimp only
  split
  · exact hstored.trans (logError_kept 4 _).sameModes
  · exact hstored.trans (sendCommand_kept _ _).sameModes

theorem writeIcrLow_sameModes (val : W32) (s : State) : SameModes s (writeIcrLow val s) := by
  have hstored : SameModes s
      (s.mapSelf fun u => { u with icr := highHalf u.icr ++ (val &&& icrLowBits u.hw) }) := ⟨rfl, rfl⟩
  unfold writeIcrLow
  dsimp only
  split
  · split
    · exact hstored.trans ((drew_kept 1 _).trans (sendIpi_kept _ _)).sameModes
    · exact hstored.trans ((drew_kept 1 _).trans (logError_kept 4 _)).sameModes
  · exact hstored.trans (sendCommand_kept _ _).sameModes

theorem loadResults_sameModes (s : State) : SameModes s (loadResults s) := by
  unfold loadResults
  split <;> exact ⟨rfl, rfl⟩

/-! ### Operations that keep the mode MSRs -/

/-- Where the operation on `s` with outcome `o` completes, it has changed no unit's mode MSR. -/
def KeepsModes (s : State) (o : Outcome) : Prop := ∀ t, o = .next t → SameModes s t

theorem keepsModes_next {s t : State} (h : SameModes s t) : KeepsModes s (.next t) := by
  rintro _ ⟨⟩
  exact h

theorem keepsModes_refused (s : State) (r : Refusal) : KeepsModes s (.refused r) := by
  rintro _ ⟨⟩

theorem keepsModes_fault (s : State) (r : Fault) : KeepsModes s (.fault r) := by
  rintro _ ⟨⟩

theorem rdmsrThen_keepsModes {s after : State} (val : W64) (h : SameModes s after) :
    KeepsModes s (rdmsrThen val after s) := by
  intro t ht
  obtain ⟨-, rfl⟩ | ⟨-, rfl⟩ := rdmsrThen_cases ht
  · exact h.answered _
  · exact (SameModes.refl s).answered _

theorem wrmsr_keepsModes {f : State → State} {s : State} (rsvd val : W64) (h : SameModes s (f s)) :
    KeepsModes s (wrmsr rsvd val f s) := by
  intro t ht
  obtain ⟨-, -, rfl⟩ | ⟨-, rfl⟩ := wrmsr_cases ht
  · exact h.answered _
  · exact (SameModes.refl s).answered _

theorem alwaysGP_keepsModes (s : State) : KeepsModes s (alwaysGP s) := keepsModes_next ⟨rfl, rfl⟩

theorem mmio_keepsModes {f : State → State} {s : State} (page : PageNo) (h : SameModes s (f s)) :
    KeepsModes s (mmio page f s) := by
  intro t ht
  obtain ⟨-, -, rfl⟩ := mmio_cases ht
  exact h

theorem loadLvt_keepsModes (page : PageNo) (x : LvtId) (s : State) : KeepsModes s (loadLvt page x s) :=
  mmio_keepsModes page ⟨rfl, rfl⟩

theorem execLoadPpr_keepsModes (page : PageNo) (s : State) : KeepsModes s (execLoadPpr page s) :=
  mmio_keepsModes page ⟨rfl, rfl⟩

theorem store_keepsModes {f : State → State} {s : State} (page : PageNo) (h : SameModes s (f s)) :
    KeepsModes s (store page f s) :=
  mmio_keepsModes page (h.answered _)

theorem illegalLoad_keepsModes (page : PageNo) (s : State) : KeepsModes s (mmio page illegalLoad s) :=
  mmio_keepsModes page (((logError_kept 7 s).trans (drew_kept 1 _)).sameModes.answered _)

theorem illegalStore_keepsModes (page : PageNo) (s : State) : KeepsModes s (illegalStore page s) :=
  store_keepsModes page (logError_kept 7 s).sameModes

theorem mapNext_keepsModes {f : State → State} {s : State} {o : Outcome} (hf : ∀ t, SameModes t (f t))
    (h : KeepsModes s o) : KeepsModes s (mapNext f o) := by
  intro t ht
  cases o with
  | next u =>
    cases ht
    exact (h u rfl).trans (hf u)
  | fault e => cases ht
  | refused e => cases ht

theorem rdmsrOutside_keepsModes (addr : W32) (s : State) : KeepsModes s (rdmsrOutside addr s) := by
  unfold rdmsrOutside
  split <;> exact keepsModes_next ⟨rfl, rfl⟩

theorem wrmsrOutside_keepsModes (addr : W32) (val : W64) (s : State) : KeepsModes s (wrmsrOutside addr val s) := by
  unfold wrmsrOutside
  split <;> exact keepsModes_next ⟨rfl, rfl⟩

theorem cpuidOutside_keepsModes (s : State) : KeepsModes s (cpuidOutside s) := keepsModes_next ⟨rfl, rfl⟩

theorem execWrmsrIcr_keepsModes (val : W64) (s : State) : KeepsModes s (execWrmsrIcr val s) := by
  unfold execWrmsrIcr
  split
  · exact keepsModes_refused s _
  · exact wrmsr_keepsModes _ _ (writeIcr_sameModes val s)

theorem execStoreIcrLo_keepsModes (page : PageNo) (val : W32) (s : State) :
    KeepsModes s (execStoreIcrLo page val s) := by
  unfold execStoreIcrLo
  split
  · exact keepsModes_refused s _
  · exact store_keepsModes page (writeIcrLow_sameModes val s)

/-! ### The rows -/

theorem rdmsrMeaning_keepsModes (i : Instr) (s : State) : KeepsModes s (rdmsrMeaning i s) := by
  cases i
  case rdmsrIa32ApicBase =>
    change KeepsModes s (execRdmsrIa32ApicBase s)
    unfold execRdmsrIa32ApicBase
    split <;> exact keepsModes_next ⟨rfl, rfl⟩
  case rdmsrReserved82F =>
    change KeepsModes s (execRdmsrReserved82F s)
    unfold execRdmsrReserved82F
    split
    · exact rdmsrThen_keepsModes _ ⟨rfl, rfl⟩
    · exact alwaysGP_keepsModes s
  case rdmsrId | rdmsrVer | rdmsrTpr | rdmsrPpr | rdmsrLdr | rdmsrSvr | rdmsrEsr | rdmsrIcr | rdmsrLvtTimer |
      rdmsrLvtThermal | rdmsrLvtPmr | rdmsrLvtLint0 | rdmsrLvtLint1 | rdmsrLvtError | rdmsrTimerIcr | rdmsrTimerCcr |
      rdmsrTimerDcr | rdmsrIsrk | rdmsrTmrk | rdmsrIrrk => exact rdmsrThen_keepsModes _ ⟨rfl, rfl⟩
  case rdmsrEoi | rdmsrSelfIpi | rdmsrReserved800 | rdmsrReserved801 | rdmsrReserved804 | rdmsrReserved805 |
      rdmsrReserved806 | rdmsrReserved807 | rdmsrReserved809 | rdmsrReserved80C | rdmsrReserved80E |
      rdmsrReserved829 | rdmsrReserved82A | rdmsrReserved82B | rdmsrReserved82C | rdmsrReserved82D |
      rdmsrReserved82E | rdmsrReserved831 | rdmsrReserved83A | rdmsrReserved83B | rdmsrReserved83C |
      rdmsrReserved83D | rdmsrReserved => exact alwaysGP_keepsModes s
  all_goals exact rdmsrOutside_keepsModes _ s

/-- A WRMSR leaves every mode MSR as it was, or it is the write of IA32_APIC_BASE. -/
theorem wrmsrMeaning_cases (i : Instr) (s : State) :
    KeepsModes s (wrmsrMeaning i s) ∨ ∃ val, wrmsrMeaning i s = execWrmsrIa32ApicBase val s := by
  cases i
  case wrmsrIa32ApicBase val => exact .inr ⟨val, rfl⟩
  all_goals left
  case wrmsrEoi => exact wrmsr_keepsModes _ _ (eoi_sameModes s)
  case wrmsrIcr val => exact execWrmsrIcr_keepsModes val s
  case wrmsrSelfIpi => exact wrmsr_keepsModes _ _ (sendCommand_kept _ s).sameModes
  case wrmsrReserved82F val =>
    change KeepsModes s (execWrmsrReserved82F val s)
    unfold execWrmsrReserved82F
    split
    · exact wrmsr_keepsModes _ _ (storeLvt_sameModes _ _ s)
    · exact alwaysGP_keepsModes s
  case wrmsrTpr | wrmsrSvr | wrmsrEsr | wrmsrTimerIcr | wrmsrTimerDcr => exact wrmsr_keepsModes _ _ ⟨rfl, rfl⟩
  case wrmsrLvtTimer | wrmsrLvtThermal | wrmsrLvtPmr | wrmsrLvtLint0 | wrmsrLvtLint1 | wrmsrLvtError =>
    exact wrmsr_keepsModes _ _ (storeLvt_sameModes _ _ s)
  case wrmsrId | wrmsrVer | wrmsrPpr | wrmsrLdr | wrmsrTimerCcr | wrmsrIsrk | wrmsrTmrk | wrmsrIrrk |
      wrmsrReserved800 | wrmsrReserved801 | wrmsrReserved804 | wrmsrReserved805 | wrmsrReserved806 |
      wrmsrReserved807 | wrmsrReserved809 | wrmsrReserved80C | wrmsrReserved80E | wrmsrReserved829 |
      wrmsrReserved82A | wrmsrReserved82B | wrmsrReserved82C | wrmsrReserved82D | wrmsrReserved82E |
      wrmsrReserved831 | wrmsrReserved83A | wrmsrReserved83B | wrmsrReserved83C | wrmsrReserved83D | wrmsrReserved =>
    exact alwaysGP_keepsModes s
  all_goals exact wrmsrOutside_keepsModes _ _ s

theorem cpuidMeaning_keepsModes (i : Instr) (s : State) : KeepsModes s (cpuidMeaning i s) := by
  unfold cpuidMeaning
  split <;> exact keepsModes_next ⟨rfl, rfl⟩

theorem execX86Rdmsr_keepsModes (s : State) : KeepsModes s (execX86Rdmsr s) := by
  unfold execX86Rdmsr
  split
  · exact alwaysGP_keepsModes s
  · refine mapNext_keepsModes loadResults_sameModes ?_
    split
    · exact rdmsrMeaning_keepsModes _ s
    · exact rdmsrOutside_keepsModes _ s

theorem execX86Wrmsr_cases (s : State) :
    KeepsModes s (execX86Wrmsr s) ∨ ∃ val, execX86Wrmsr s = execWrmsrIa32ApicBase val s := by
  unfold execX86Wrmsr
  dsimp only
  split
  · exact .inl (alwaysGP_keepsModes s)
  · split
    · exact wrmsrMeaning_cases _ s
    · exact .inl (wrmsrOutside_keepsModes _ _ s)

theorem execX86Cpuid_keepsModes (s : State) : KeepsModes s (execX86Cpuid s) := by
  refine mapNext_keepsModes loadResults_sameModes ?_
  split
  · exact cpuidMeaning_keepsModes _ s
  · exact cpuidOutside_keepsModes s

/-- An operation leaves every mode MSR as it was, or it is the write of IA32_APIC_BASE (40_enable_and_mode.md R142). -/
theorem exec_cases (i : Instr) (s : State) :
    KeepsModes s (exec i s) ∨ ∃ val, exec i s = execWrmsrIa32ApicBase val s := by
  have hread := rdmsrMeaning_keepsModes i s
  have hwrite := wrmsrMeaning_cases i s
  have hcpuid := cpuidMeaning_keepsModes i s
  cases i
  case rdmsrIa32ApicBase | rdmsrId | rdmsrVer | rdmsrTpr | rdmsrPpr | rdmsrEoi | rdmsrLdr | rdmsrSvr | rdmsrEsr |
      rdmsrIcr | rdmsrLvtTimer | rdmsrLvtThermal | rdmsrLvtPmr | rdmsrLvtLint0 | rdmsrLvtLint1 | rdmsrLvtError |
      rdmsrTimerIcr | rdmsrTimerCcr | rdmsrTimerDcr | rdmsrSelfIpi | rdmsrIsrk | rdmsrTmrk | rdmsrIrrk |
      rdmsrReserved800 | rdmsrReserved801 | rdmsrReserved804 | rdmsrReserved805 | rdmsrReserved806 |
      rdmsrReserved807 | rdmsrReserved809 | rdmsrReserved80C | rdmsrReserved80E | rdmsrReserved829 |
      rdmsrReserved82A | rdmsrReserved82B | rdmsrReserved82C | rdmsrReserved82D | rdmsrReserved82E |
      rdmsrReserved82F | rdmsrReserved831 | rdmsrReserved83A | rdmsrReserved83B | rdmsrReserved83C |
      rdmsrReserved83D | rdmsrReserved => exact .inl hread
  case wrmsrIa32ApicBase | wrmsrId | wrmsrVer | wrmsrTpr | wrmsrPpr | wrmsrEoi | wrmsrLdr | wrmsrSvr | wrmsrEsr |
      wrmsrIcr | wrmsrLvtTimer | wrmsrLvtThermal | wrmsrLvtPmr | wrmsrLvtLint0 | wrmsrLvtLint1 | wrmsrLvtError |
      wrmsrTimerIcr | wrmsrTimerCcr | wrmsrTimerDcr | wrmsrSelfIpi | wrmsrIsrk | wrmsrTmrk | wrmsrIrrk |
      wrmsrReserved800 | wrmsrReserved801 | wrmsrReserved804 | wrmsrReserved805 | wrmsrReserved806 |
      wrmsrReserved807 | wrmsrReserved809 | wrmsrReserved80C | wrmsrReserved80E | wrmsrReserved829 |
      wrmsrReserved82A | wrmsrReserved82B | wrmsrReserved82C | wrmsrReserved82D | wrmsrReserved82E |
      wrmsrReserved82F | wrmsrReserved831 | wrmsrReserved83A | wrmsrReserved83B | wrmsrReserved83C |
      wrmsrReserved83D | wrmsrReserved => exact hwrite
  case x86Wrmsr => exact execX86Wrmsr_cases s
  all_goals left
  case cpuid01h | cpuid0bh => exact hcpuid
  case x86Rdmsr => exact execX86Rdmsr_keepsModes s
  case x86Cpuid => exact execX86Cpuid_keepsModes s
  case loadEoi page => exact illegalLoad_keepsModes page s
  case loadReserved page slot =>
    change KeepsModes s (execLoadReserved page slot s)
    unfold execLoadReserved
    split
    · exact loadLvt_keepsModes page _ s
    · exact illegalLoad_keepsModes page s
  case loadPpr page => exact execLoadPpr_keepsModes page s
  case loadLvtTimer | loadLvtThermal | loadLvtPmr | loadLvtLint0 | loadLvtLint1 | loadLvtError =>
    exact loadLvt_keepsModes _ _ s
  case loadId | loadVer | loadTpr | loadApr | loadRrr | loadLdr | loadDfr | loadSvr | loadEsr | loadTimerIcr |
      loadTimerCcr | loadTimerDcr | loadIsrk | loadTmrk | loadIrrk | loadIcrLo | loadIcrHi =>
    exact mmio_keepsModes _ ⟨rfl, rfl⟩
  case storeEoi page val => exact store_keepsModes page (eoi_sameModes s)
  case storeIcrLo page val => exact execStoreIcrLo_keepsModes page val s
  case storeReserved page slot val =>
    change KeepsModes s (execStoreReserved page slot val s)
    unfold execStoreReserved
    split
    · exact store_keepsModes page (storeLvt_sameModes _ _ s)
    · exact illegalStore_keepsModes page s
  case storeId | storeTpr | storeLdr | storeDfr | storeSvr | storeEsr | storeTimerIcr | storeTimerDcr | storeIcrHi =>
    exact store_keepsModes _ ⟨rfl, rfl⟩
  case storeLvtTimer | storeLvtThermal | storeLvtPmr | storeLvtLint0 | storeLvtLint1 | storeLvtError =>
    exact store_keepsModes _ (storeLvt_sameModes _ _ s)
  case storeVer | storeApr | storePpr | storeRrr | storeTimerCcr | storeIsrk | storeTmrk | storeIrrk =>
    exact illegalStore_keepsModes _ s

/-! ### Platforms without an Invalid unit -/

/-- No unit of the platform is in the Invalid mode. -/
structure NoInvalidUnit (s : State) : Prop where
  self : s.self.mode ≠ .invalid
  others : ∀ u ∈ s.others, u.mode ≠ .invalid

theorem Apic.mode_congr {u v : Apic} (h : v.base = u.base) : v.mode = u.mode := by rw [Apic.mode, Apic.mode, h]

theorem SameModes.noInvalidUnit {s t : State} (h : SameModes s t) (hs : NoInvalidUnit s) : NoInvalidUnit t where
  self := by
    rw [Apic.mode_congr h.base]
    exact hs.self
  others := by
    rw [h.others]
    exact hs.others

theorem KeepsModes.noInvalidUnit {s t : State} {o : Outcome} (h : KeepsModes s o) (ht : o = .next t)
    (hs : NoInvalidUnit s) : NoInvalidUnit t :=
  (h t ht).noInvalidUnit hs

/-! ### The write of IA32_APIC_BASE -/

theorem transition_sameModes (cur new : Mode) (s : State) : SameModes s (transition cur new s) := by
  unfold transition
  split
  · exact SameModes.refl s
  · cases new <;> exact ⟨rfl, rfl⟩

/-- A write of IA32_APIC_BASE that completes is GP(0), or it stores a value that is not the pair EN=0, EXTD=1
(40_enable_and_mode.md R143). -/
theorem execWrmsrIa32ApicBase_cases {val : W64} {s t : State} (h : execWrmsrIa32ApicBase val s = .next t) :
    t = raiseGP s ∨ (invalidCombination val = false ∧ t = (writeBase val s).answered .done) := by
  unfold execWrmsrIa32ApicBase at h
  split at h
  · cases h
    exact .inl rfl
  split at h
  · cases h
    exact .inl rfl
  split at h
  · cases h
    exact .inl rfl
  rename_i hvalid
  split at h
  · cases h
  split at h
  · cases h
    exact .inl rfl
  split at h
  · cases h
  · cases h
    exact .inr ⟨by simpa using hvalid, rfl⟩

theorem writeBase_noInvalidUnit {val : W64} {s : State} (hval : invalidCombination val = false)
    (hs : NoInvalidUnit s) : NoInvalidUnit (writeBase val s) := by
  have hmode : modeOf (val.getLsbD 11) (val.getLsbD 10) ≠ .invalid := by simpa [invalidCombination] using hval
  have hstored : NoInvalidUnit (s.mapSelf (storeBase val)) := ⟨hmode, hs.others⟩
  exact (transition_sameModes _ _ _).noInvalidUnit hstored

theorem execWrmsrIa32ApicBase_noInvalidUnit {val : W64} {s t : State} (h : execWrmsrIa32ApicBase val s = .next t)
    (hs : NoInvalidUnit s) : NoInvalidUnit t := by
  obtain rfl | ⟨hval, rfl⟩ := execWrmsrIa32ApicBase_cases h
  · exact ((SameModes.refl s).answered _).noInvalidUnit hs
  · exact ((SameModes.refl _).answered _).noInvalidUnit (writeBase_noInvalidUnit hval hs)

theorem exec_noInvalidUnit {i : Instr} {s t : State} (h : exec i s = .next t) (hs : NoInvalidUnit s) :
    NoInvalidUnit t := by
  obtain hkeeps | ⟨val, hbase⟩ := exec_cases i s
  · exact hkeeps.noInvalidUnit h hs
  · exact execWrmsrIa32ApicBase_noInvalidUnit (hbase ▸ h) hs

theorem runOutside_keepsModes (e : DecodeError) (a : Access) (s : State) : KeepsModes s (runOutside e a s) := by
  cases a with
  | msrR addr => exact rdmsrOutside_keepsModes addr s
  | msrW addr val => exact wrmsrOutside_keepsModes addr val s
  | cpuid leaf sub => exact cpuidOutside_keepsModes s
  | mmioR pa width => exact keepsModes_refused s _
  | mmioW pa width val => exact keepsModes_refused s _
  | x86 bytes => exact keepsModes_refused s _

theorem runAccess_noInvalidUnit {cpl : BitVec 2} {a : Access} {s t : State} (h : runAccess cpl a s = .next t)
    (hs : NoInvalidUnit s) : NoInvalidUnit t := by
  have hissue : NoInvalidUnit (atIssue cpl s) := ⟨hs.self, hs.others⟩
  unfold runAccess at h
  split at h
  · exact exec_noInvalidUnit h hissue
  · exact (runOutside_keepsModes _ a _).noInvalidUnit h hissue

/-! ### RESET -/

theorem apicAtReset_mode (hw : Params) (esr pending : W64) : (apicAtReset hw esr pending).mode = .xapic := rfl

theorem unitsAtReset_mode {u : Apic} (n : Nat) (ids : List W32) (h : u ∈ unitsAtReset n ids) : u.mode = .xapic := by
  induction ids generalizing n with
  | nil => cases h
  | cons id ids ih =>
    rcases List.mem_cons.1 h with rfl | hrest
    · exact apicAtReset_mode _ _ _
    · exact ih (n + 1) hrest

theorem reset_noInvalidUnit : NoInvalidUnit State.reset where
  self := (apicAtReset_mode _ _ _).trans_ne nofun
  others _ hu := (unitsAtReset_mode 1 _ hu).trans_ne nofun

theorem resetSelf_mode (s : State) : (resetSelf s).self.mode = .xapic := rfl

theorem resetSelf_noInvalidUnit {s : State} (hs : NoInvalidUnit s) : NoInvalidUnit (resetSelf s) :=
  ⟨(resetSelf_mode s).trans_ne nofun, hs.others⟩

/-! ### The agents -/

theorem initSelf_sameModes (s : State) : SameModes s (initSelf s) where
  base := by
    unfold initSelf
    dsimp only
    split <;> rfl
  others := rfl

theorem messageEvent_sameModes (del : BitVec 3) (vec : Byte) (s : State) : SameModes s (messageEvent del vec s) := by
  have hevent : SameModes s (coreEvent del vec s) := ⟨rfl, rfl⟩
  unfold messageEvent
  dsimp only
  split
  · exact hevent.trans (initSelf_sameModes _)
  · exact hevent

theorem arriveMessage_sameModes (o : Origin) (del : BitVec 3) (vec : Byte) (trig : Bool) (s : State) :
    SameModes s (arriveMessage o del vec trig s) := by
  unfold arriveMessage
  split
  · exact (arrive_kept o vec trig s).sameModes
  split
  · split
    · exact ((drew_kept 1 s).trans (arrive_kept o vec trig _)).sameModes
    · exact (drew_kept 1 s).sameModes
  · exact messageEvent_sameModes del vec s

theorem fireLvt_sameModes (x : LvtId) (s : State) : SameModes s (fireLvt x s) := by
  unfold fireLvt
  dsimp only
  split
  · exact SameModes.refl s
  split
  · exact (arrive_kept _ _ _ s).sameModes
  · exact ⟨rfl, rfl⟩

theorem timerExpired_base (u : Apic) : (timerExpired u).base = u.base := by
  unfold timerExpired
  split <;> rfl

theorem timerTick_sameModes (s : State) : SameModes s (timerTick s) := by
  have hcounted : SameModes s (s.mapSelf fun u => { u with count := u.count - 1#32 }) := ⟨rfl, rfl⟩
  unfold timerTick
  dsimp only
  split
  · split
    · exact (hcounted.trans (fireLvt_sameModes .timer _)).trans (mapSelf_sameModes (timerExpired_base _))
    · exact hcounted
  · exact SameModes.refl s

theorem timerClock_sameModes (s : State) : SameModes s (timerClock s) := by
  have hfrac : ∀ n, SameModes s (s.mapSelf fun u => { u with frac := n }) := fun _ => ⟨rfl, rfl⟩
  unfold timerClock
  split
  · split
    · exact (hfrac 0).trans (timerTick_sameModes _)
    · exact hfrac _
  · exact SameModes.refl s

theorem runCore_sameModes (eax ebx ecx edx : W32) (intEnabled : Bool) (s : State) :
    SameModes s (runCore eax ebx ecx edx intEnabled s) :=
  ⟨rfl, rfl⟩

theorem sampleOffer_sameModes (s : State) : SameModes s (sampleOffer s) := ⟨rfl, rfl⟩

theorem dispatch_sameModes (v : Byte) (s : State) : SameModes s (dispatch v s) := ⟨rfl, rfl⟩

theorem takeInterrupt_keepsModes (s : State) : KeepsModes s (takeInterrupt s) := by
  unfold takeInterrupt
  split
  · split
    · exact keepsModes_next (dispatch_sameModes _ s)
    · split
      · exact keepsModes_next ⟨rfl, rfl⟩
      · exact keepsModes_fault s _
  · exact keepsModes_fault s _

theorem fireSource_keepsModes (x : LocalSource) (s : State) : KeepsModes s (fireSource x s) := by
  unfold fireSource
  split
  · exact keepsModes_next (fireLvt_sameModes x.entry s)
  · exact keepsModes_fault s _

/-! ### Units that change places -/

theorem swapWith_noInvalidUnit (k : Nat) {s : State} (hs : NoInvalidUnit s) : NoInvalidUnit (swapWith k s) := by
  unfold swapWith
  split
  · exact hs
  · rename_i u hu
    refine ⟨hs.others u (List.mem_of_getElem? hu), fun v hv => ?_⟩
    rcases List.mem_or_eq_of_mem_set hv with hold | rfl
    · exact hs.others v hold
    · exact hs.self

theorem atUnit_noInvalidUnit {f : State → State} (hf : ∀ s, SameModes s (f s)) (id : W32) {s : State}
    (hs : NoInvalidUnit s) : NoInvalidUnit (atUnit id f s) := by
  unfold atUnit
  split
  · exact (hf s).noInvalidUnit hs
  split
  · exact hs
  · exact swapWith_noInvalidUnit _ ((hf _).noInvalidUnit (swapWith_noInvalidUnit _ hs))

theorem deliver_noInvalidUnit {k : Nat} {s t : State} (h : deliver k s = .next t) (hs : NoInvalidUnit s) :
    NoInvalidUnit t := by
  unfold deliver at h
  split at h
  · cases h
    exact atUnit_noInvalidUnit (arriveMessage_sameModes _ _ _ _) _ ⟨hs.self, hs.others⟩
  · cases h

theorem selectUnit_noInvalidUnit {k : Nat} {s t : State} (h : selectUnit k s = .next t) (hs : NoInvalidUnit s) :
    NoInvalidUnit t := by
  unfold selectUnit at h
  split at h
  · cases h
    exact swapWith_noInvalidUnit k hs
  · cases h

/-! ### One step -/

theorem runEvent_noInvalidUnit {e : Event} {s t : State} (h : runEvent e s = .next t) (hs : NoInvalidUnit s) :
    NoInvalidUnit t := by
  cases e with
  | access cpl a => exact runAccess_noInvalidUnit h hs
  | coreRuns a b c d i => exact (keepsModes_next (runCore_sameModes a b c d i s)).noInvalidUnit h hs
  | sample => exact (keepsModes_next (sampleOffer_sameModes s)).noInvalidUnit h hs
  | take => exact (takeInterrupt_keepsModes s).noInvalidUnit h hs
  | deliver k => exact deliver_noInvalidUnit h hs
  | deviceMessage del vec level =>
    exact (keepsModes_next (arriveMessage_sameModes _ _ _ _ s)).noInvalidUnit h hs
  | tick => exact (keepsModes_next (timerTick_sameModes s)).noInvalidUnit h hs
  | clock => exact (keepsModes_next (timerClock_sameModes s)).noInvalidUnit h hs
  | source x => exact (fireSource_keepsModes x s).noInvalidUnit h hs
  | resetUnit =>
    cases h
    exact resetSelf_noInvalidUnit hs
  | initUnit => exact (keepsModes_next (initSelf_sameModes s)).noInvalidUnit h hs
  | select k => exact selectUnit_noInvalidUnit h hs

theorem stepEvent_noInvalidUnit {e : Event} {rest : List Event} {s t : State} (h : stepEvent e rest s = .next t)
    (hs : NoInvalidUnit s) : NoInvalidUnit t := by
  unfold stepEvent at h
  split at h
  · exact (keepsModes_next (dispatch_sameModes _ s)).noInvalidUnit h hs
  · exact runEvent_noInvalidUnit h ⟨hs.self, hs.others⟩

theorem step_noInvalidUnit {s t : State} (h : step s = .next t) (hs : NoInvalidUnit s) : NoInvalidUnit t := by
  unfold step at h
  split at h
  · cases h
    exact hs
  · exact stepEvent_noInvalidUnit h hs

/-- Settles O22: RESET gives every unit xAPIC mode, and a step keeps `NoInvalidUnit`. -/
theorem invalidModeIsNeverReached : Obligations.InvalidModeIsNeverReached := by
  refine ⟨⟨reset_noInvalidUnit.self, reset_noInvalidUnit.others⟩, fun s t hself hothers h => ?_⟩
  have ht : NoInvalidUnit t := step_noInvalidUnit h ⟨hself, hothers⟩
  exact ⟨ht.self, ht.others⟩

end Sys2Proof.Machine
end

section
/-! PROOFS. O38: the pair EN=0, EXTD=1 written to IA32_APIC_BASE (40_enable_and_mode.md R143). The tests in front of the
one for this pair, privilege and reserved bits, raise GP(0) as well, so the unit's state does not matter; the test of the
BSP bit, which would stop the run, comes after it (notes/assumptions/36.md). -/

namespace Sys2Proof.Machine

open Sys2Proof.Statements

theorem modeOf_eq_invalid_iff {en extd : Bool} : modeOf en extd = .invalid ↔ en = false ∧ extd = true := by
  cases en <;> cases extd <;> decide

theorem invalidCombination_iff {val : W64} :
    invalidCombination val = true ↔ val.getLsbD 11 = false ∧ val.getLsbD 10 = true := by
  rw [invalidCombination, beq_iff_eq, modeOf_eq_invalid_iff]

theorem execWrmsrIa32ApicBase_of_invalidCombination {val : W64} (s : State) (hval : invalidCombination val = true) :
    execWrmsrIa32ApicBase val s = .next (raiseGP s) := by
  unfold execWrmsrIa32ApicBase
  rw [if_pos hval]
  split
  case isTrue hprivilege => rfl
  case isFalse hcpl =>
    split
    case isTrue hreserved => rfl
    case isFalse hclean => rfl

theorem gp_eq_raiseGP (s : State) : gp s = raiseGP s := rfl

/-- Settles O38: the pair is the invalid combination, for which the write is GP(0) in every state. -/
theorem invalidCombinationRaisesGp : Obligations.InvalidCombinationRaisesGp := by
  intro s val hen hextd
  rw [gp_eq_raiseGP]
  exact execWrmsrIa32ApicBase_of_invalidCombination s (invalidCombination_iff.2 ⟨hen, hextd⟩)

end Sys2Proof.Machine
end

section
/-! PROOFS. O9, O11: RDMSR and WRMSR of the reserved addresses, and RDMSR of SELF IPI, always raise GP(0)
(43_registers_icr_to_selfipi.md R287, R300, R305). Each is the same two facts: the decoder answers the row of the
address's offset, and the row is `alwaysGP`. -/

namespace Sys2Proof.Machine

open Sys2Proof.Statements

theorem alwaysGP_eq_next_gp (s : State) : alwaysGP s = .next (gp s) := rfl

/-! ### The row of an address from 800H to BFFH -/

theorem addr_eq_append_of_range {addr : W32} (h : inMsrRange addr) : addr = 2#22 ++ addr.setWidth 10 := by
  obtain ⟨hlow, hhigh⟩ := h
  rw [BitVec.setWidth_eq_extractLsb' (by decide)]
  exact msr_addr_split (selects_of_range hlow hhigh)

theorem decode_msrR_of_range {addr : W32} (h : inMsrRange addr) :
    decode (.msrR addr) = .ok (rdmsrAt (addr.setWidth 10)) := by
  calc
    decode (.msrR addr) = decode (rdmsrOf (addr.setWidth 10)) :=
      congrArg (fun a => decode (.msrR a)) (addr_eq_append_of_range h)
    _ = .ok (rdmsrAt (addr.setWidth 10)) := decode_rdmsrOf _

theorem decode_msrW_of_range {addr : W32} (h : inMsrRange addr) (val : W64) :
    decode (.msrW addr val) = .ok (wrmsrAt (addr.setWidth 10) val) := by
  calc
    decode (.msrW addr val) = decode (wrmsrOf (addr.setWidth 10) val) :=
      congrArg (fun a => decode (.msrW a val)) (addr_eq_append_of_range h)
    _ = .ok (wrmsrAt (addr.setWidth 10) val) := decode_wrmsrOf _ val

/-- The offsets above the table have the default rows (30_encoding.md R118). -/
theorem rdmsrAt_of_default {off : BitVec 10} (h : 0x40 ≤ off.toNat) : rdmsrAt off = .rdmsrReserved off := if_pos h

theorem wrmsrAt_of_default {off : BitVec 10} (h : 0x40 ≤ off.toNat) (val : W64) :
    wrmsrAt off val = .wrmsrReserved off val :=
  if_pos h

theorem default_offset_of_addr {addr : W32} (hlow : 0x840 ≤ addr.toNat) (hhigh : addr.toNat ≤ 0xBFF) :
    0x40 ≤ (addr.setWidth 10).toNat := by
  rw [BitVec.toNat_setWidth]
  omega

/-! ### The rows that always raise GP(0) -/

theorem exec_rdmsrReserved (off : BitVec 10) (s : State) : exec (.rdmsrReserved off) s = .next (gp s) :=
  alwaysGP_eq_next_gp s

theorem exec_wrmsrReserved (off : BitVec 10) (val : W64) (s : State) :
    exec (.wrmsrReserved off val) s = .next (gp s) :=
  alwaysGP_eq_next_gp s

theorem exec_rdmsrSelfIpi (s : State) : exec .rdmsrSelfIpi s = .next (gp s) := alwaysGP_eq_next_gp s

theorem decode_reservedRows {val : W64} {r : MsrRow} (hr : r ∈ reservedRows val) :
    decode (.msrR r.addr) = .ok r.read ∧ decode (.msrW r.addr val) = .ok r.write := by
  simp only [reservedRows, List.mem_cons, List.not_mem_nil, or_false] at hr
  obtain rfl | rfl | rfl | rfl := hr
  · exact ⟨decode_rdmsrOf 0x03A#10, decode_wrmsrOf 0x03A#10 val⟩
  · exact ⟨decode_rdmsrOf 0x03B#10, decode_wrmsrOf 0x03B#10 val⟩
  · exact ⟨decode_rdmsrOf 0x03C#10, decode_wrmsrOf 0x03C#10 val⟩
  · exact ⟨decode_rdmsrOf 0x03D#10, decode_wrmsrOf 0x03D#10 val⟩

theorem exec_reservedRows {val : W64} {r : MsrRow} (hr : r ∈ reservedRows val) (s : State) :
    exec r.read s = .next (gp s) ∧ exec r.write s = .next (gp s) := by
  simp only [reservedRows, List.mem_cons, List.not_mem_nil, or_false] at hr
  obtain rfl | rfl | rfl | rfl := hr <;> exact ⟨alwaysGP_eq_next_gp s, alwaysGP_eq_next_gp s⟩

/-- Settles O9: each address decodes to the row of its offset, one of R287 or the default row, and that row is GP(0) in
every state. -/
theorem reservedAddressesRaiseGp : Obligations.ReservedAddressesRaiseGp := by
  intro s val
  constructor
  case left =>
    intro r hr
    obtain ⟨hread, hwrite⟩ := decode_reservedRows hr
    obtain ⟨hgpRead, hgpWrite⟩ := exec_reservedRows hr s
    exact ⟨hread, hgpRead, hwrite, hgpWrite⟩
  case right =>
    intro addr hlow hhigh
    have hrange : inMsrRange addr := ⟨by omega, hhigh⟩
    have hoff := default_offset_of_addr hlow hhigh
    rw [decode_msrR_of_range hrange, decode_msrW_of_range hrange, rdmsrAt_of_default hoff, wrmsrAt_of_default hoff]
    exact ⟨rfl, exec_rdmsrReserved _ s, rfl, exec_wrmsrReserved _ val s⟩

/-- Settles O11: 83FH is offset 03FH of the unit, whose row is GP(0) in every state. -/
theorem selfIpiReadRaisesGp : Obligations.SelfIpiReadRaisesGp :=
  ⟨decode_rdmsrOf 0x03F#10, exec_rdmsrSelfIpi⟩

end Sys2Proof.Machine
end

section
/-! PROOFS. O1, O2, O3: the encoder and the decoder are inverse to each other (30_encoding.md R117, R118). An address is
its select field or page and its offset or slot (Laws/Decode.lean); what is left is that the tables `rdmsrAt`,
`wrmsrAt`, `loadAt`, `storeAt` answer for each offset the row that encodes to it, and the table is walked once for
each. -/
namespace Sys2Proof

/-! ### Walking an offset table -/

theorem forall_bank {P : BitVec 3 → Prop} (h : ∀ n : Fin 8, P (BitVec.ofNat 3 n)) (k : BitVec 3) : P k := by
  have hk := h k.toFin
  rwa [show ((k.toFin : Fin 8) : Nat) = k.toNat from rfl, BitVec.ofNat_toNat, BitVec.setWidth_eq] at hk

/-- An offset table of `w` bits is its 64 entries and the default row above them (30_encoding.md R118). -/
theorem forall_offset {w : Nat} {P : BitVec w → Prop} (hdefault : ∀ off : BitVec w, 0x40 ≤ off.toNat → P off)
    (hentry : ∀ n : Fin 64, P (BitVec.ofNat w n)) (off : BitVec w) : P off := by
  by_cases h : 0x40 ≤ off.toNat
  · exact hdefault off h
  · have hoff := hentry ⟨off.toNat, by omega⟩
    rwa [BitVec.ofNat_toNat, BitVec.setWidth_eq] at hoff

/-! ### The tables against the encoder -/

/-- The operation `i` is the well-formed one that the access `a` encodes. -/
def IsRowOf (a : Access) (i : Instr) : Prop := i.wf = true ∧ encode i = a

theorem rdmsrAt_isRowOf (off : BitVec 10) : IsRowOf (rdmsrOf off) (rdmsrAt off) := by
  induction off using forall_offset with
  | hdefault off h =>
    rw [rdmsrAt, if_pos h]
    exact ⟨decide_eq_true h, rfl⟩
  | hentry n => fin_cases n <;> exact ⟨rfl, rfl⟩

theorem wrmsrAt_isRowOf (val : W64) (off : BitVec 10) : IsRowOf (wrmsrOf off val) (wrmsrAt off val) := by
  induction off using forall_offset with
  | hdefault off h =>
    rw [wrmsrAt, if_pos h]
    exact ⟨decide_eq_true h, rfl⟩
  | hentry n => fin_cases n <;> exact ⟨rfl, rfl⟩

theorem isReservedSlot_of_default {slot : Byte} (h : 0x40 ≤ slot.toNat) : isReservedSlot slot = true := by
  have h' : 0x3F ≤ slot.toNat := by omega
  simp [isReservedSlot, h']

theorem loadAt_isRowOf (page : PageNo) (slot : Byte) : IsRowOf (loadOf page slot) (loadAt page slot) := by
  induction slot using forall_offset with
  | hdefault slot h =>
    rw [loadAt, if_pos h]
    exact ⟨isReservedSlot_of_default h, rfl⟩
  | hentry n => fin_cases n <;> exact ⟨rfl, rfl⟩

theorem storeAt_isRowOf (page : PageNo) (val : W32) (slot : Byte) :
    IsRowOf (storeOf page slot val) (storeAt page slot val) := by
  induction slot using forall_offset with
  | hdefault slot h =>
    rw [storeAt, if_pos h]
    exact ⟨isReservedSlot_of_default h, rfl⟩
  | hentry n => fin_cases n <;> exact ⟨rfl, rfl⟩

/-! ### Every format of access -/

theorem decodeRdmsr_isRowOf {addr : W32} {i : Instr} (h : decodeRdmsr addr = .ok i) : IsRowOf (.msrR addr) i := by
  unfold decodeRdmsr at h
  split at h
  · rename_i hbase
    cases h
    exact ⟨rfl, congrArg Access.msrR hbase.symm⟩
  split at h
  · rename_i hselect
    cases h
    obtain ⟨hwf, henc⟩ := rdmsrAt_isRowOf (addr.extractLsb' 0 10)
    exact ⟨hwf, henc.trans (congrArg Access.msrR (msr_addr_split (beq_iff_eq.1 hselect)).symm)⟩
  · cases h

theorem decodeWrmsr_isRowOf {addr : W32} {val : W64} {i : Instr} (h : decodeWrmsr addr val = .ok i) :
    IsRowOf (.msrW addr val) i := by
  unfold decodeWrmsr at h
  split at h
  · rename_i hbase
    cases h
    exact ⟨rfl, congrArg (Access.msrW · val) hbase.symm⟩
  split at h
  · rename_i hselect
    cases h
    obtain ⟨hwf, henc⟩ := wrmsrAt_isRowOf val (addr.extractLsb' 0 10)
    exact ⟨hwf, henc.trans (congrArg (Access.msrW · val) (msr_addr_split (beq_iff_eq.1 hselect)).symm)⟩
  · cases h

theorem decodeLoad_isRowOf {pa : W64} {width : Nat} {i : Instr} (h : decodeLoad pa width = .ok i) :
    IsRowOf (.mmioR pa width) i := by
  unfold decodeLoad at h
  split at h
  · cases h
  split at h
  · cases h
  · rename_i hwidth halign
    cases h
    obtain ⟨hwf, henc⟩ := loadAt_isRowOf (pa.extractLsb' 12 52) (pa.extractLsb' 4 8)
    refine ⟨hwf, henc.trans ?_⟩
    rw [loadOf, ← mmio_addr_split (not_not.1 halign), not_not.1 hwidth]

theorem decodeStore_isRowOf {pa : W64} {width : Nat} {val : W32} {i : Instr} (h : decodeStore pa width val = .ok i) :
    IsRowOf (.mmioW pa width val) i := by
  unfold decodeStore at h
  split at h
  · cases h
  split at h
  · cases h
  · rename_i hwidth halign
    cases h
    obtain ⟨hwf, henc⟩ := storeAt_isRowOf (pa.extractLsb' 12 52) val (pa.extractLsb' 4 8)
    refine ⟨hwf, henc.trans ?_⟩
    rw [storeOf, ← mmio_addr_split (not_not.1 halign), not_not.1 hwidth]

theorem decodeCpuid_isRowOf {leaf subleaf : W32} {i : Instr} (h : decodeCpuid leaf subleaf = .ok i) :
    IsRowOf (.cpuid leaf subleaf) i := by
  unfold decodeCpuid at h
  split at h
  · rename_i hleaf
    cases h
    exact ⟨rfl, congrArg (Access.cpuid · subleaf) hleaf.symm⟩
  split at h
  · rename_i hleaf
    cases h
    exact ⟨rfl, congrArg (Access.cpuid · subleaf) hleaf.symm⟩
  · cases h

theorem decodeX86_isRowOf {bytes : List Byte} {i : Instr} (h : decodeX86 bytes = .ok i) : IsRowOf (.x86 bytes) i := by
  unfold decodeX86 at h
  split at h
  · rename_i hbytes
    cases h
    exact ⟨rfl, congrArg Access.x86 hbytes.symm⟩
  split at h
  · rename_i hbytes
    cases h
    exact ⟨rfl, congrArg Access.x86 hbytes.symm⟩
  split at h
  · rename_i hbytes
    cases h
    exact ⟨rfl, congrArg Access.x86 hbytes.symm⟩
  · cases h

theorem decode_isRowOf {a : Access} {i : Instr} (h : decode a = .ok i) : IsRowOf a i := by
  cases a with
  | msrR addr => exact decodeRdmsr_isRowOf h
  | msrW addr val => exact decodeWrmsr_isRowOf h
  | mmioR pa width => exact decodeLoad_isRowOf h
  | mmioW pa width val => exact decodeStore_isRowOf h
  | cpuid leaf subleaf => exact decodeCpuid_isRowOf h
  | x86 bytes => exact decodeX86_isRowOf h

theorem encode_of_decode {a : Access} {i : Instr} (h : decode a = .ok i) : encode i = a := (decode_isRowOf h).2

/-- Settles O2: each format's decoder answers a row that encodes to the access. -/
theorem decodeThenEncode : Obligations.DecodeThenEncode := fun _ _ h => decode_isRowOf h

/-! ### The encoder's offsets in the tables -/

theorem decode_rdmsrOf_eq {off : BitVec 10} {i : Instr} (h : rdmsrAt off = i) : decode (rdmsrOf off) = .ok i :=
  h ▸ decode_rdmsrOf off

theorem decode_wrmsrOf_eq {off : BitVec 10} {val : W64} {i : Instr} (h : wrmsrAt off val = i) :
    decode (wrmsrOf off val) = .ok i :=
  h ▸ decode_wrmsrOf off val

theorem decode_loadOf_eq {page : PageNo} {slot : Byte} {i : Instr} (h : loadAt page slot = i) :
    decode (loadOf page slot) = .ok i :=
  h ▸ decode_loadOf page slot

theorem decode_storeOf_eq {page : PageNo} {slot : Byte} {val : W32} {i : Instr} (h : storeAt page slot val = i) :
    decode (storeOf page slot val) = .ok i :=
  h ▸ decode_storeOf page slot val

/-- A banked register's index is the low part of its offset (10_state.md R26). -/
theorem rdmsrAt_bank (k : BitVec 3) :
    rdmsrAt (2#7 ++ k) = .rdmsrIsrk k ∧ rdmsrAt (3#7 ++ k) = .rdmsrTmrk k ∧ rdmsrAt (4#7 ++ k) = .rdmsrIrrk k := by
  induction k using forall_bank with
  | h n => fin_cases n <;> exact ⟨rfl, rfl, rfl⟩

theorem wrmsrAt_bank (val : W64) (k : BitVec 3) :
    wrmsrAt (2#7 ++ k) val = .wrmsrIsrk k val ∧ wrmsrAt (3#7 ++ k) val = .wrmsrTmrk k val
      ∧ wrmsrAt (4#7 ++ k) val = .wrmsrIrrk k val := by
  induction k using forall_bank with
  | h n => fin_cases n <;> exact ⟨rfl, rfl, rfl⟩

theorem loadAt_bank (page : PageNo) (k : BitVec 3) :
    loadAt page (2#5 ++ k) = .loadIsrk page k ∧ loadAt page (3#5 ++ k) = .loadTmrk page k
      ∧ loadAt page (4#5 ++ k) = .loadIrrk page k := by
  induction k using forall_bank with
  | h n => fin_cases n <;> exact ⟨rfl, rfl, rfl⟩

theorem storeAt_bank (page : PageNo) (val : W32) (k : BitVec 3) :
    storeAt page (2#5 ++ k) val = .storeIsrk page k val ∧ storeAt page (3#5 ++ k) val = .storeTmrk page k val
      ∧ storeAt page (4#5 ++ k) val = .storeIrrk page k val := by
  induction k using forall_bank with
  | h n => fin_cases n <;> exact ⟨rfl, rfl, rfl⟩

/-- The reserved slots are the default row's, below the table's end as well as above it. -/
theorem loadAt_eq_ite (page : PageNo) (slot : Byte) :
    loadAt page slot = if isReservedSlot slot = true then .loadReserved page slot else loadAt page slot := by
  induction slot using forall_offset with
  | hdefault slot h =>
    rw [if_pos (isReservedSlot_of_default h)]
    exact if_pos h
  | hentry n => fin_cases n <;> rfl

theorem storeAt_eq_ite (page : PageNo) (val : W32) (slot : Byte) :
    storeAt page slot val = if isReservedSlot slot = true then .storeReserved page slot val
      else storeAt page slot val := by
  induction slot using forall_offset with
  | hdefault slot h =>
    rw [if_pos (isReservedSlot_of_default h)]
    exact if_pos h
  | hentry n => fin_cases n <;> rfl

/-- Settles O1: an operation's offset or slot is in the table at its own row; the banked registers and the default rows
by the lemmas above, every other row by its one entry. -/
theorem encodeThenDecode : Obligations.EncodeThenDecode := by
  intro i hwf
  cases i
  case rdmsrReserved off => exact decode_rdmsrOf_eq (if_pos (of_decide_eq_true hwf))
  case wrmsrReserved off val => exact decode_wrmsrOf_eq (if_pos (of_decide_eq_true hwf))
  case loadReserved page slot => exact decode_loadOf_eq ((loadAt_eq_ite page slot).trans (if_pos hwf))
  case storeReserved page slot val => exact decode_storeOf_eq ((storeAt_eq_ite page val slot).trans (if_pos hwf))
  case rdmsrIsrk k => exact decode_rdmsrOf_eq (rdmsrAt_bank k).1
  case rdmsrTmrk k => exact decode_rdmsrOf_eq (rdmsrAt_bank k).2.1
  case rdmsrIrrk k => exact decode_rdmsrOf_eq (rdmsrAt_bank k).2.2
  case wrmsrIsrk k val => exact decode_wrmsrOf_eq (wrmsrAt_bank val k).1
  case wrmsrTmrk k val => exact decode_wrmsrOf_eq (wrmsrAt_bank val k).2.1
  case wrmsrIrrk k val => exact decode_wrmsrOf_eq (wrmsrAt_bank val k).2.2
  case loadIsrk page k => exact decode_loadOf_eq (loadAt_bank page k).1
  case loadTmrk page k => exact decode_loadOf_eq (loadAt_bank page k).2.1
  case loadIrrk page k => exact decode_loadOf_eq (loadAt_bank page k).2.2
  case storeIsrk page k val => exact decode_storeOf_eq (storeAt_bank page val k).1
  case storeTmrk page k val => exact decode_storeOf_eq (storeAt_bank page val k).2.1
  case storeIrrk page k val => exact decode_storeOf_eq (storeAt_bank page val k).2.2
  case rdmsrIa32ApicBase | wrmsrIa32ApicBase | cpuid01h | cpuid0bh | x86Rdmsr | x86Wrmsr | x86Cpuid => rfl
  case rdmsrId | rdmsrVer | rdmsrTpr | rdmsrPpr | rdmsrEoi | rdmsrLdr | rdmsrSvr | rdmsrEsr | rdmsrIcr | rdmsrLvtTimer |
      rdmsrLvtThermal | rdmsrLvtPmr | rdmsrLvtLint0 | rdmsrLvtLint1 | rdmsrLvtError | rdmsrTimerIcr | rdmsrTimerCcr |
      rdmsrTimerDcr | rdmsrSelfIpi | rdmsrReserved800 | rdmsrReserved801 | rdmsrReserved804 | rdmsrReserved805 |
      rdmsrReserved806 | rdmsrReserved807 | rdmsrReserved809 | rdmsrReserved80C | rdmsrReserved80E |
      rdmsrReserved829 | rdmsrReserved82A | rdmsrReserved82B | rdmsrReserved82C | rdmsrReserved82D |
      rdmsrReserved82E | rdmsrReserved82F | rdmsrReserved831 | rdmsrReserved83A | rdmsrReserved83B |
      rdmsrReserved83C | rdmsrReserved83D => exact decode_rdmsrOf_eq rfl
  case wrmsrId | wrmsrVer | wrmsrTpr | wrmsrPpr | wrmsrEoi | wrmsrLdr | wrmsrSvr | wrmsrEsr | wrmsrIcr | wrmsrLvtTimer |
      wrmsrLvtThermal | wrmsrLvtPmr | wrmsrLvtLint0 | wrmsrLvtLint1 | wrmsrLvtError | wrmsrTimerIcr | wrmsrTimerCcr |
      wrmsrTimerDcr | wrmsrSelfIpi | wrmsrReserved800 | wrmsrReserved801 | wrmsrReserved804 | wrmsrReserved805 |
      wrmsrReserved806 | wrmsrReserved807 | wrmsrReserved809 | wrmsrReserved80C | wrmsrReserved80E |
      wrmsrReserved829 | wrmsrReserved82A | wrmsrReserved82B | wrmsrReserved82C | wrmsrReserved82D |
      wrmsrReserved82E | wrmsrReserved82F | wrmsrReserved831 | wrmsrReserved83A | wrmsrReserved83B |
      wrmsrReserved83C | wrmsrReserved83D => exact decode_wrmsrOf_eq rfl
  case loadId | loadVer | loadTpr | loadApr | loadPpr | loadEoi | loadRrr | loadLdr | loadDfr | loadSvr | loadEsr |
      loadLvtTimer | loadLvtThermal | loadLvtPmr | loadLvtLint0 | loadLvtLint1 | loadLvtError | loadTimerIcr |
      loadTimerCcr | loadTimerDcr | loadIcrLo | loadIcrHi => exact decode_loadOf_eq rfl
  case storeId | storeVer | storeTpr | storeApr | storePpr | storeEoi | storeRrr | storeLdr | storeDfr | storeSvr |
      storeEsr | storeLvtTimer | storeLvtThermal | storeLvtPmr | storeLvtLint0 | storeLvtLint1 | storeLvtError |
      storeTimerIcr | storeTimerCcr | storeTimerDcr | storeIcrLo | storeIcrHi => exact decode_storeOf_eq rfl

/-- Settles O3: each word is the select field or page and the offset or slot of its row. -/
theorem mapWordsDecode : Obligations.MapWordsDecode :=
  ⟨rfl, decode_rdmsrOf 0x002#10, decode_wrmsrOf 0x008#10 _, decode_rdmsrOf 0x017#10, decode_wrmsrOf 0x030#10 _,
    decode_rdmsrOf 0x03F#10, decode_rdmsrOf 0x3FF#10, decode_loadOf 0xFEE00#52 0x03#8,
      decode_storeOf 0xFEE00#52 0x31#8 _,
    rfl, rfl⟩

end Sys2Proof
end

section
/-! PROOFS. O7, O24, O29: the default interrupt logic in the words of the statements. `highest` is `isHighest`, a
priority class is a number below 16, and the vector in service that a priority is compared with is `inService`
(60_exceptions.md R355 to R357). -/

namespace Sys2Proof.Machine

open Sys2Proof.Statements

/-! ### The highest vector and its class -/

theorem highest_eq_some_iff {b : Bits256} {v : Byte} : highest b = some v ↔ isHighest b v := highest_eq_some

theorem toNat_classOf (v : Byte) : (classOf v).toNat = priorityClass v := by
  rw [classOf, priorityClass, BitVec.extractLsb'_toNat, Nat.shiftRight_eq_div_pow]
  omega

theorem classOf_lt_iff {v w : Byte} : classOf v < classOf w ↔ priorityClass v < priorityClass w := by
  rw [BitVec.lt_def, toNat_classOf, toNat_classOf]

theorem classOf_le_iff {v w : Byte} : classOf v ≤ classOf w ↔ priorityClass v ≤ priorityClass w := by
  rw [BitVec.le_def, toNat_classOf, toNat_classOf]

theorem classOf_eq_iff {v w : Byte} : classOf v = classOf w ↔ priorityClass v = priorityClass w := by
  rw [← BitVec.toNat_inj, toNat_classOf, toNat_classOf]

theorem highest_getD_of_inService {u : Apic} {v : Byte} (h : inService u v) : (highest u.isr).getD 0#8 = v := by
  rcases h with h | ⟨hisr, rfl⟩
  · rw [highest_eq_some_iff.2 h, Option.getD_some]
  · rw [highest_eq_none.2 hisr, Option.getD_none]

/-- The processor priority class is below a class exactly when both its parts are (60_exceptions.md R355). -/
theorem pprClass_lt_iff {u : Apic} {isrv v : Byte} (h : inService u isrv) :
    pprClass u.tpr u.isr < classOf v ↔ priorityClass u.tpr < priorityClass v
      ∧ priorityClass isrv < priorityClass v := by
  unfold pprClass
  dsimp only
  rw [highest_getD_of_inService h]
  split
  case isTrue hle =>
    rw [classOf_le_iff] at hle
    rw [classOf_lt_iff]
    omega
  case isFalse hgt =>
    rw [classOf_le_iff] at hgt
    rw [classOf_lt_iff]
    omega

/-- Settles O7: what is offered is `highest` of IRR, and the class test splits into its two parts. -/
theorem offerIsHighestAbovePriority : Obligations.OfferIsHighestAbovePriority := by
  intro u v isrv hstandard hservice
  rw [offered_standard hstandard, highest_eq_some_iff, pprClass_lt_iff hservice]

/-! ### The processor priority -/

theorem classOf_append_zero (v : Byte) : classOf v ++ 0#4 = v &&& 0xF0#8 := by
  revert v
  decide

theorem ppr_standard {u : Apic} (h : standard u) (lowZero : Bool) :
    ppr lowZero u = standardPpr lowZero u.tpr u.isr := by
  rw [ppr, h]
  rfl

/-- The default priority is, in each of the three orders of the two classes, a value that order allows. -/
theorem ppr_shows {u : Apic} (h : standard u) (lowZero : Bool) : showsPpr u (ppr lowZero u) := by
  intro v hv
  rw [ppr_standard h, standardPpr, highest_getD_of_inService hv]
  simp only [classOf_lt_iff, classOf_eq_iff]
  refine ⟨fun hlt => if_pos hlt, fun heq => ?_, fun hgt => ?_⟩
  · rw [if_neg (by omega), if_pos heq]
    split
    · right
      rw [classOf_eq_iff.2 heq, classOf_append_zero]
    · exact .inl rfl
  · rw [if_neg (by omega), if_neg (by omega), classOf_append_zero]

/-! ### The access templates where the checks pass -/

theorem msrOpen_of_hears {s : State} (h : hears s) : msrOpen s = true := msrOpen_iff.2 h

theorem rdmsrThen_of_hears {s : State} (h : hears s) (val : W64) (after : State) :
    rdmsrThen val after s = .next (withAnswer (.value val) after) := by
  rw [rdmsrThen, if_pos (msrOpen_of_hears h)]
  rfl

theorem wrmsr_of_hears {s : State} (h : hears s) {rsvd val : W64} (hval : val &&& rsvd = 0#64) (f : State → State) :
    wrmsr rsvd val f s = .next (finished (f s)) := by
  rw [wrmsr, if_pos (by rw [msrOpen_of_hears h, hval]; rfl)]
  rfl

theorem mmio_of_atPage {s : State} {page : PageNo} (h : atPage page s) (f : State → State) :
    mmio page f s = .next (f s) := by
  obtain ⟨hmode, hpage⟩ := h
  rw [mmio, if_neg (not_not.2 hmode), if_neg (not_not.2 hpage)]

theorem load_of_atPage {s : State} {page : PageNo} (h : atPage page s) (val : W32) :
    load page val s = .next (withAnswer (.data val) s) :=
  mmio_of_atPage h _

theorem store_of_atPage {s : State} {page : PageNo} (h : atPage page s) (f : State → State) :
    store page f s = .next (finished (f s)) :=
  mmio_of_atPage h _

theorem zext64_setWidth (v : Byte) : zext64 (v.setWidth 32) = v.setWidth 64 := by
  apply BitVec.eq_of_toNat_eq
  simp only [zext64, BitVec.toNat_setWidth]
  omega

/-- Settles O24: both reads answer `ppr`, which `ppr_shows`. -/
theorem pprReadsAnswerTheProcessorPriority : Obligations.PprReadsAnswerTheProcessorPriority := by
  intro s hstandard
  refine ⟨fun hs => ⟨ppr s.freeBool s.self, ppr_shows hstandard _, ?_⟩, fun page hs =>
    ⟨ppr s.freeBool s.self, ppr_shows hstandard _,
      mmio_of_atPage hs fun t => (t.drew 1).answered (.data ((ppr t.freeBool t.self).setWidth 32))⟩⟩
  rw [← zext64_setWidth]
  exact rdmsrThen_of_hears hs _ (s.drew 1)

/-! ### The end of an interrupt -/

/-- `eoi` by the default logic is what the statements call the end of an interrupt. -/
theorem eoi_signals {s : State} (h : standard s.self) : signalsEoi s (.next (finished (eoi s))) := by
  rcases eoi_standard h with ⟨hnone, heoi⟩ | ⟨w, hw, heoi⟩ <;> rw [heoi]
  · refine ⟨fun _ => rfl, fun v hv => ?_⟩
    rw [← highest_eq_some_iff, highest_eq_none.2 hnone] at hv
    cases hv
  · refine ⟨fun hnone => ?_, fun v hv => ?_⟩
    · rw [highest_eq_none.2 hnone] at hw
      cases hw
    · rw [← highest_eq_some_iff, hw] at hv
      cases hv
      have hcond : (s.self.tmr.getLsbD w.toNat && !suppressesEoi s.self) = true
          ↔ s.self.tmr.getLsbD w.toNat = true
            ∧ ¬ (s.self.hw.directedEoi = true ∧ s.self.svr.getLsbD 12 = true) := by
        simp only [suppressesEoi, Bool.and_eq_true, Bool.not_eq_true', Bool.and_eq_false_iff, not_and,
          Bool.not_eq_true, imp_iff_not_or, Bool.not_eq_true]
      dsimp only
      by_cases hb : (s.self.tmr.getLsbD w.toNat && !suppressesEoi s.self) = true
      · rw [if_pos hb, if_pos (hcond.1 hb)]
        rfl
      · rw [if_neg hb, if_neg (mt hcond.2 hb), List.append_nil]
        rfl

/-- Settles O29: both writes are `eoi`. -/
theorem eoiWritesSignalTheEnd : Obligations.EoiWritesSignalTheEnd := by
  intro s hstandard
  constructor
  · intro hs
    rw [show exec (.wrmsrEoi 0#64) s = .next (finished (eoi s)) from wrmsr_of_hears hs (BitVec.zero_and) eoi]
    exact eoi_signals hstandard
  · intro page val hs
    rw [show exec (.storeEoi page val) s = .next (finished (eoi s)) from store_of_atPage hs eoi]
    exact eoi_signals hstandard

end Sys2Proof.Machine
end

section
/-! PROOFS. O4, O5, O6, O8: the schedule's next event, and the core's side of the port. A step is the interrupt that a
TPR write has made due before an instruction, or the event itself (`stepEvent`); each statement is one of the two. -/

namespace Sys2Proof.Machine

open Sys2Proof.Statements

/-! ### A step is its event -/

theorem stepEvent_of_none {e : Event} {s : State} (h : dueBefore e s.self = none) (rest : List Event) :
    stepEvent e rest s = runEvent e { s with schedule := rest } := by
  rw [stepEvent, h]

theorem step_of_due {s : State} {e : Event} {rest : List Event} {v : Byte} (h : s.schedule = e :: rest)
    (hdue : dueBefore e s.self = some v) : step s = .next (dispatch v s) := by
  rw [step, h]
  change stepEvent e rest s = _
  rw [stepEvent, hdue]

theorem step_of_agent {s : State} {e : Event} {rest : List Event} (h : s.schedule = e :: rest)
    (he : isInstruction e = false) : step s = runEvent e { s with schedule := rest } := by
  rw [step, h]
  exact stepEvent_of_none (by rw [dueBefore, he]; rfl) rest

theorem definiteOffer_of_noInterruptDue {s : State} (h : noInterruptDue s) : definiteOffer s.self = none := by
  unfold definiteOffer
  split
  case isTrue hmark =>
    obtain ⟨hboundary, henabled⟩ := Bool.and_eq_true _ _ ▸ hmark
    exact h hboundary henabled
  case isFalse => rfl

theorem step_of_access {s : State} {cpl : BitVec 2} {a : Access} {rest : List Event}
    (h : s.schedule = .access cpl a :: rest) (hdue : noInterruptDue s) :
    step s = runAccess cpl a { s with schedule := rest } := by
  have hnone : dueBefore (.access cpl a) s.self = none := definiteOffer_of_noInterruptDue hdue
  rw [step, h]
  exact stepEvent_of_none hnone rest

/-! ### Access operations -/

theorem runAccess_of_ok {a : Access} {i : Instr} (h : decode a = .ok i) (cpl : BitVec 2) (s : State) :
    runAccess cpl a s = exec i (atIssue cpl s) := by
  rw [runAccess, h]

theorem runAccess_of_error {a : Access} {e : DecodeError} (h : decode a = .error e) (cpl : BitVec 2) (s : State) :
    runAccess cpl a s = runOutside e a (atIssue cpl s) := by
  rw [runAccess, h]

theorem decode_of_decodeTableWord {nbits w : Nat} {i : Instr} (h : decodeTableWord nbits w = some i) :
    decode (tableAccess nbits w) = .ok i := by
  unfold decodeTableWord at h
  split at h
  case h_1 j hj =>
    cases h
    exact hj
  case h_2 => cases h

/-- Settles O4: with nothing due the step is the access, which is decoded and executed. -/
theorem stepRunsDecodedAccess : Obligations.StepRunsDecodedAccess := by
  constructor
  · intro s cpl a rest i hschedule hdue hdecode
    rw [step_of_access hschedule hdue, runAccess_of_ok hdecode]
    rfl
  · intro s nbits w i hdue hword
    have hnext : (s.withFetchWord nbits w).schedule = .access 0#2 (tableAccess nbits w) :: s.schedule := rfl
    rw [step_of_access hnext hdue, runAccess_of_ok (decode_of_decodeTableWord hword)]
    rfl

/-! ### Accesses outside the map -/

theorem decodeLoad_of_width {width : Nat} (h : width ≠ 4) (pa : W64) :
    decodeLoad pa width = .error .mmioWidth := if_pos h

theorem decodeStore_of_width {width : Nat} (h : width ≠ 4) (pa : W64) (val : W32) :
    decodeStore pa width val = .error .mmioWidth :=
  if_pos h

theorem low_bits_ne_zero {pa : W64} (h : pa.toNat % 16 ≠ 0) : pa.extractLsb' 0 4 ≠ 0#4 := by
  intro hzero
  have hnat := congrArg BitVec.toNat hzero
  rw [BitVec.extractLsb'_toNat, Nat.shiftRight_zero] at hnat
  exact h hnat

theorem decodeLoad_of_misaligned {pa : W64} (h : pa.toNat % 16 ≠ 0) : decodeLoad pa 4 = .error .mmioMisaligned := by
  rw [decodeLoad, if_neg (not_not.2 rfl), if_pos (low_bits_ne_zero h)]

theorem decodeStore_of_misaligned {pa : W64} (h : pa.toNat % 16 ≠ 0) (val : W32) :
    decodeStore pa 4 val = .error .mmioMisaligned := by
  rw [decodeStore, if_neg (not_not.2 rfl), if_pos (low_bits_ne_zero h)]

theorem decodeX86_of_other {bytes : List Byte} (h : bytes ∉ [[0x0F#8, 0x32#8], [0x0F#8, 0x30#8], [0x0F#8, 0xA2#8]]) :
    decodeX86 bytes = .error .notAnX86Encoding := by
  simp only [List.mem_cons, List.not_mem_nil, or_false, not_or] at h
  obtain ⟨hrdmsr, hwrmsr, hcpuid⟩ := h
  rw [decodeX86, if_neg hrdmsr, if_neg hwrmsr, if_neg hcpuid]

theorem inMsrRange_of_selectsUnit {addr : W32} (h : selectsUnit addr = true) : inMsrRange addr := by
  have hnat := congrArg BitVec.toNat (beq_iff_eq.1 h)
  simp only [BitVec.extractLsb'_toNat, Nat.shiftRight_eq_div_pow, BitVec.toNat_ofNat] at hnat
  unfold inMsrRange
  omega

theorem decodeRdmsr_outside {addr : W32} (hbase : addr ≠ 0x1B#32) (hrange : ¬ inMsrRange addr) :
    decodeRdmsr addr = .error .msrOutsideSpec := by
  rw [decodeRdmsr, if_neg hbase, if_neg (mt inMsrRange_of_selectsUnit hrange)]

theorem decodeWrmsr_outside {addr : W32} (hbase : addr ≠ 0x1B#32) (hrange : ¬ inMsrRange addr) (val : W64) :
    decodeWrmsr addr val = .error .msrOutsideSpec := by
  rw [decodeWrmsr, if_neg hbase, if_neg (mt inMsrRange_of_selectsUnit hrange)]

theorem decodeCpuid_outside {leaf : W32} (h1 : leaf ≠ 0x01#32) (hB : leaf ≠ 0x0B#32) (subleaf : W32) :
    decodeCpuid leaf subleaf = .error .cpuidLeafOutsideSpec := by
  rw [decodeCpuid, if_neg h1, if_neg hB]

/-- A RDMSR outside the spec raises GP(0), or at CPL 0 completes with a free value (notes/assumptions/40.md). -/
theorem rdmsrOutside_cases (addr : W32) (s : State) :
    rdmsrOutside addr s = .next (gp s)
      ∨ (s.self.core.cpl = 0#2 ∧ rdmsrOutside addr s = .next (withAnswer (.value s.freeWord) (drawing 1 s))) := by
  unfold rdmsrOutside
  split
  case isTrue => exact .inl rfl
  case isFalse h => exact .inr ⟨not_not.1 (not_or.1 h).1, rfl⟩

theorem wrmsrOutside_cases (addr : W32) (val : W64) (s : State) :
    wrmsrOutside addr val s = .next (gp s)
      ∨ (s.self.core.cpl = 0#2 ∧ wrmsrOutside addr val s = .next (finished s)) := by
  unfold wrmsrOutside
  split
  case isTrue => exact .inl rfl
  case isFalse h => exact .inr ⟨not_not.1 (not_or.1 h).1, rfl⟩

/-- Settles O5: the decoder's reason is in each case the one named, and `runOutside` says what follows from it. -/
theorem accessesOutsideTheMap : Obligations.AccessesOutsideTheMap := by
  intro s cpl a rest hschedule hdue issued
  have hstep : ∀ {e}, decode a = .error e → step s = runOutside e a issued := fun he => by
    rw [step_of_access hschedule hdue, runAccess_of_error he]
    rfl
  refine ⟨fun pa width hwidth ha => ?_, fun pa halign ha => ?_, fun bytes hbytes ha => ?_, fun addr hbase hrange =>
    ⟨fun ha => ?_, fun val ha => ?_⟩, fun leaf sub h1 hB ha => ?_⟩
  · obtain rfl | ⟨val, rfl⟩ := ha
    · exact hstep (decodeLoad_of_width hwidth pa)
    · exact hstep (decodeStore_of_width hwidth pa val)
  · obtain rfl | ⟨val, rfl⟩ := ha
    · exact hstep (decodeLoad_of_misaligned halign)
    · exact hstep (decodeStore_of_misaligned halign val)
  · subst ha
    exact hstep (decodeX86_of_other hbytes)
  · subst ha
    rw [hstep (decodeRdmsr_outside hbase hrange)]
    exact (rdmsrOutside_cases addr issued).imp_right fun ⟨hcpl, hnext⟩ => ⟨hcpl, _, hnext⟩
  · subst ha
    rw [hstep (decodeWrmsr_outside hbase hrange val)]
    exact wrmsrOutside_cases addr val issued
  · subst ha
    rw [hstep (decodeCpuid_outside h1 hB sub)]
    exact ⟨_, _, _, _, rfl⟩

/-! ### Taking an interrupt -/

/-- Settles O6: at the boundary the offer is definite, so the step takes it in front of the instruction. -/
theorem tprWriteIsReflectedBeforeTheNextInstruction : Obligations.TprWriteIsReflectedBeforeTheNextInstruction := by
  intro s e rest v hschedule hinstruction hboundary henabled hoffered hstandard
  have hdue : dueBefore e s.self = some v := by
    rw [dueBefore, if_pos hinstruction, definiteOffer, hboundary, henabled]
    exact hoffered
  rw [step_of_due hschedule hdue, dispatch_standard hstandard]
  rfl

theorem takeInterrupt_of_off {s : State} (h : s.self.core.intEnabled = false) :
    takeInterrupt s = .fault .nothingToTake := by
  rw [takeInterrupt, h]
  rfl

theorem takeInterrupt_of_offered {s : State} {v : Byte} (hon : s.self.core.intEnabled = true)
    (h : offered s.self = some v) : takeInterrupt s = .next (dispatch v s) := by
  rw [takeInterrupt, if_pos hon, h]

theorem takeInterrupt_of_none {s : State} (hon : s.self.core.intEnabled = true) (h : offered s.self = none) :
    takeInterrupt s = if s.self.core.sampled then .next (takeSpurious s) else .fault .nothingToTake := by
  rw [takeInterrupt, if_pos hon, h]

theorem lowByte_eq_setWidth (v : W32) : lowByte v = v.setWidth 8 := (BitVec.setWidth_eq_extractLsb' (by decide)).symm

/-- Settles O8: the cases of `takeInterrupt`, of which the first is `dispatch` by the default logic. -/
theorem takingAnInterrupt : Obligations.TakingAnInterrupt := by
  intro s rest hschedule
  let after : State := { s with schedule := rest }
  have hstep : step s = takeInterrupt after := step_of_agent hschedule rfl
  rw [hstep]
  refine ⟨fun hon => ⟨fun v hv hstandard => ?_, fun hnone hsampled => ?_, fun hnone hsampled => ?_⟩,
    takeInterrupt_of_off (s := after)⟩
  · rw [takeInterrupt_of_offered (s := after) hon hv, dispatch_standard (s := after) hstandard]
    rfl
  · rw [takeInterrupt_of_none (s := after) hon hnone, if_pos (show after.self.core.sampled = true from hsampled),
      takeSpurious, lowByte_eq_setWidth]
    rfl
  · rw [takeInterrupt_of_none (s := after) hon hnone, show after.self.core.sampled = false from hsampled]
    rfl

end Sys2Proof.Machine
end

section
/-! PROOFS. O54, O55, O56, O57, O58: what comes to a unit, a message, a local source or the timer, ends in a fixed
interrupt that arrives or in an event for the core. So the interrupt logic is put into the words of the statements once:
`accept` is `receives`, `logError` is `logsError`, `arrive` is `arrives`, `arriveMessage` is `reached`. -/

namespace Sys2Proof.Machine

open Sys2Proof.Statements

/-! ### Accepting, in the words of the statements -/

theorem noteRaised_eq_noted (u : Apic) (o : Origin) (vec : Byte) : u.noteRaised o vec = noted o vec u := by
  cases o <;> rfl

theorem heldMessage_eq_holding (id : W32) (o : Origin) (vec : Byte) (level : Bool) :
    heldMessage id o vec level = holding id o vec level := by
  cases o <;> rfl

theorem accept_receives (o : Origin) (vec : Byte) (level : Bool) (s : State) :
    receives o vec level s (accept o vec level s) := by
  refine ⟨fun ⟨hen, hsvr⟩ hstandard => ?_, fun ⟨hen, hsvr⟩ => ?_, fun hclosed => ?_⟩
  · rw [accept_of_enabled hen hsvr, ← noteRaised_eq_noted, State.mapSelf, hstandard]
    rfl
  · rw [accept_of_enabled hen hsvr, State.mapSelf, noteRaised_eq_noted]
    exact ⟨_, rfl⟩
  · have hdisabled : (s.self.base.en && s.self.svr.getLsbD 8) = false := by
      rw [Bool.eq_false_iff, ne_eq, Bool.and_eq_true]
      exact hclosed
    rw [accept_of_disabled hdisabled]
    rcases notAccepted_cases o vec level s with h | h <;> rw [h]
    · exact .inl rfl
    · rw [heldMessage_eq_holding]
      exact .inr rfl

/-! ### Logging an error, in the words of the statements -/

theorem lvtVector_eq_setWidth (reg : W32) : lvtVector reg = reg.setWidth 8 := lowByte_eq_setWidth reg

theorem errorInterrupt_issuesError (s : State) : issuesError s (errorInterrupt s) := by
  unfold errorInterrupt
  dsimp only
  rw [lvtVector_eq_setWidth]
  change issuesError s (if (errorVector s.self).toNat < 16 then setErrorBit 6 s
    else accept (.source .error) (errorVector s.self) false s)
  refine ⟨fun hlow => ?_, fun hlegal => ?_⟩
  · rw [if_pos hlow]
    rfl
  · rw [if_neg (Nat.not_lt.2 hlegal)]
    exact accept_receives _ _ _ s

theorem logError_of_first {s : State} (hunmasked : lvtMasked s.self.lvtError.reg = false)
    (hnone : s.self.esrPending = 0#32) (b : Nat) : logError b s = errorInterrupt (setErrorBit b s) := by
  simp [logError, hunmasked, hnone]

theorem logError_of_more {s : State} (hunmasked : lvtMasked s.self.lvtError.reg = false)
    (hmore : s.self.esrPending ≠ 0#32) (b : Nat) :
    logError b s = (setErrorBit b s).drew 1 ∨ logError b s = errorInterrupt ((setErrorBit b s).drew 1) := by
  simp only [logError, hunmasked, Bool.false_eq_true, if_false, if_neg hmore]
  split
  · exact .inr rfl
  · exact .inl rfl

theorem logError_logsError (b : Nat) (s : State) : logsError b s (logError b s) := by
  refine ⟨fun hmasked => logError_of_masked hmasked b, fun hunmasked hnone => ?_, fun hunmasked hmore => ?_⟩
  · rw [logError_of_first hunmasked hnone]
    exact errorInterrupt_issuesError _
  · rcases logError_of_more hunmasked hmore b with h | h <;> rw [h]
    · exact .inl rfl
    · exact .inr (errorInterrupt_issuesError _)

/-! ### Arriving, in the words of the statements -/

theorem arrive_of_low {vec : Byte} (h : vec.toNat < 16) (o : Origin) (level : Bool) (s : State) :
    arrive o vec level s = logError 6 s :=
  if_pos h

theorem arrive_arrives (o : Origin) (vec : Byte) (level : Bool) (s : State) :
    arrives o vec level s (arrive o vec level s) := by
  refine ⟨fun hlow => ?_, fun hlegal => ?_⟩
  · rw [arrive_of_low hlow]
    exact logError_logsError 6 s
  · rw [arrive, if_neg (Nat.not_lt.2 hlegal)]
    exact accept_receives o vec level s

theorem arriveMessage_fixed (o : Origin) (vec : Byte) (level : Bool) (s : State) :
    arriveMessage o 0#3 vec level s = arrive o vec level s :=
  if_pos rfl

theorem arriveMessage_lowest_cases (o : Origin) (vec : Byte) (level : Bool) (s : State) :
    arriveMessage o 1#3 vec level s = s.drew 1 ∨ arriveMessage o 1#3 vec level s = arrive o vec level (s.drew 1) := by
  rw [arriveMessage, if_neg (by decide), if_pos (by decide)]
  split
  · exact .inr rfl
  · exact .inl rfl

theorem arriveMessage_other {del : BitVec 3} (hfixed : del ≠ 0#3) (hlowest : del ≠ 1#3) (o : Origin) (vec : Byte)
    (level : Bool) (s : State) : arriveMessage o del vec level s = messageEvent del vec s := by
  rw [arriveMessage, if_neg (show ¬del = delFixed from hfixed), if_neg (show ¬del = delLowest from hlowest)]

theorem messageEvent_of_not_init {del : BitVec 3} (h : del ≠ 5#3) (vec : Byte) (s : State) :
    messageEvent del vec s = withSelf (handed del vec s.self) s :=
  if_neg h

theorem arriveMessage_reached {del : BitVec 3} (h : del ≠ 5#3) (o : Origin) (vec : Byte) (level : Bool) (s : State) :
    reached o del vec level s (arriveMessage o del vec level s) := by
  refine ⟨?_, ?_, fun hfixed hlowest => ?_⟩
  · rintro rfl
    rw [arriveMessage_fixed]
    exact arrive_arrives o vec level s
  · rintro rfl
    rcases arriveMessage_lowest_cases o vec level s with hm | hm <;> rw [hm]
    · exact .inl rfl
    · exact .inr (arrive_arrives o vec level _)
  · rw [arriveMessage_other hfixed hlowest, messageEvent_of_not_init h]

/-! ### Delivering to the unit that a message names -/

/-- The `j`-th other unit is the first one of x2APIC ID `id`. -/
def IsFirstOfId (id : W32) (j : Nat) (w : Apic) (s : State) : Prop :=
  s.others[j]? = some w ∧ w.x2apicId = id ∧ ∀ j' < j, ∀ w', s.others[j']? = some w' → w'.x2apicId ≠ id

theorem atUnit_self {id : W32} {s : State} (h : id = s.self.x2apicId) (f : State → State) : atUnit id f s = f s :=
  if_pos h.symm

theorem atUnit_none {id : W32} {s : State} (hself : id ≠ s.self.x2apicId) (hothers : ∀ w ∈ s.others, w.x2apicId ≠ id)
    (f : State → State) : atUnit id f s = s := by
  have hfind : (s.others.findIdx? fun u => u.x2apicId == id) = none :=
    List.findIdx?_eq_none_iff.2 fun w hw => beq_false_of_ne (hothers w hw)
  rw [atUnit, if_neg (Ne.symm hself), hfind]

theorem findIdx?_of_isFirstOfId {id : W32} {j : Nat} {w : Apic} {s : State} (h : IsFirstOfId id j w s) :
    (s.others.findIdx? fun u => u.x2apicId == id) = some j := by
  obtain ⟨hget, hid, hfirst⟩ := h
  obtain ⟨hj, hw⟩ := List.getElem?_eq_some_iff.1 hget
  refine List.findIdx?_eq_some_iff_getElem.2 ⟨hj, ?_, fun j' hj' => ?_⟩
  · rw [hw, hid]
    exact BEq.rfl
  · rw [beq_eq_false_iff_ne.2 (hfirst j' hj' _ (List.getElem?_eq_getElem (by omega)))]
    exact Bool.false_ne_true

theorem swapWith_of_get {s : State} {j : Nat} {w : Apic} (h : s.others[j]? = some w) :
    swapWith j s = { s with self := w, others := s.others.set j s.self } := by
  rw [swapWith, h]

/-- What an operation of one unit alone does at another unit: it runs with that unit acting, and the two change back. -/
theorem atUnit_other {id : W32} {j : Nat} {w : Apic} {s : State} {f : State → State} (hself : id ≠ s.self.x2apicId)
    (h : IsFirstOfId id j w s) (hf : ∀ t, (f t).others = t.others) :
    let there : State := f { s with self := w, others := s.others.set j s.self }
    atUnit id f s = { there with self := s.self, others := s.others.set j there.self } := by
  intro there
  have hlt : j < s.others.length := (List.getElem?_eq_some_iff.1 h.1).1
  have hothers : there.others = s.others.set j s.self := hf _
  have hback : there.others[j]? = some s.self := by rw [hothers, List.getElem?_set_self hlt]
  rw [atUnit, if_neg (Ne.symm hself), findIdx?_of_isFirstOfId h]
  dsimp only
  rw [swapWith_of_get h.1, swapWith_of_get hback, hothers, List.set_set]

theorem step_of_deliver {s : State} {rest : List Event} {k : Nat} {m : Msg}
    (hschedule : s.schedule = .deliver k :: rest)
    (hm : s.inflight[k]? = some m) :
    step s = .next (atUnit m.dst (arriveMessage m.origin m.del m.vec m.trig)
      { s with schedule := rest, inflight := s.inflight.eraseIdx k }) := by
  rw [step_of_agent hschedule rfl]
  change deliver k { s with schedule := rest } = _
  rw [deliver]
  dsimp only
  rw [hm]
  rfl

theorem arriveMessage_others (o : Origin) (del : BitVec 3) (vec : Byte) (trig : Bool) (s : State) :
    (arriveMessage o del vec trig s).others = s.others :=
  (arriveMessage_sameModes o del vec trig s).others

/-- Settles O54: delivering is `arriveMessage` at the unit the message names, and that is `reached`. -/
theorem deliveryReachesItsTarget : Obligations.DeliveryReachesItsTarget := by
  constructor
  · intro s rest k m hschedule hm after
    rw [step_of_deliver hschedule hm]
    refine ⟨fun hself hdel => ?_, fun j w hself hdel hget hid hfirst => ?_, fun hself hothers => ?_⟩
    · rw [atUnit_self (s := after) hself]
      exact ⟨_, arriveMessage_reached hdel _ _ _ _, rfl⟩
    · rw [atUnit_other (s := after) hself ⟨hget, hid, hfirst⟩ (arriveMessage_others _ _ _ _)]
      exact ⟨_, arriveMessage_reached hdel _ _ _ _, rfl⟩
    · rw [atUnit_none (s := after) hself hothers]
  · intro s rest del vec level hschedule hdel
    rw [step_of_agent hschedule rfl]
    exact ⟨_, arriveMessage_reached hdel _ _ _ _, rfl⟩

/-! ### A received illegal vector leaves its IRR bit -/

theorem vecBit_and_vecBit {v w : Byte} (h : v ≠ w) : vecBit v &&& vecBit w = 0#256 := by
  have hne : v.toNat ≠ w.toNat := fun he => h (BitVec.eq_of_toNat_eq he)
  apply BitVec.eq_of_getLsbD_eq
  intro i hi
  simp only [vecBit, BitVec.getLsbD_and, BitVec.getLsbD_shiftLeft, BitVec.getLsbD_one, BitVec.getLsbD_zero]
  rw [Bool.and_eq_false_iff]
  by_cases hv : i = v.toNat
  · right
    simp
    omega
  · left
    simp
    omega

theorem or_vecBit_and_vecBit {v w : Byte} (h : v ≠ w) (b : Bits256) :
    (b ||| vecBit v) &&& vecBit w = b &&& vecBit w := by
  rw [BitVec.and_comm, BitVec.and_or_distrib_left, BitVec.and_comm (vecBit w) (vecBit v), vecBit_and_vecBit h,
    BitVec.or_zero, BitVec.and_comm]

/-- By the default logic the error interrupt sets no IRR bit of a vector below 16. -/
theorem errorInterrupt_irr_low {s : State} (hstandard : standard s.self) {vec : Byte} (hvec : vec.toNat < 16) :
    (errorInterrupt s).self.irr &&& vecBit vec = s.self.irr &&& vecBit vec := by
  unfold errorInterrupt
  dsimp only
  split
  · rfl
  · rename_i hlegal
    rcases accept_bits hstandard (.source .error) (lvtVector s.self.lvtError.reg) false with
      ⟨hirr, -⟩ | ⟨-, hirr, -⟩ <;>
      rw [hirr]
    refine or_vecBit_and_vecBit ?_ _
    rintro rfl
    exact hlegal hvec

theorem logError_irr_low {s : State} (hstandard : standard s.self) (b : Nat) {vec : Byte} (hvec : vec.toNat < 16) :
    (logError b s).self.irr &&& vecBit vec = s.self.irr &&& vecBit vec := by
  rcases logError_cases b s with h | h | ⟨-, h⟩ | ⟨-, h⟩ <;> rw [h]
  · rfl
  · rfl
  · exact errorInterrupt_irr_low (s := setErrorBit b s) hstandard hvec
  · exact errorInterrupt_irr_low (s := (setErrorBit b s).drew 1) hstandard hvec

/-- Settles O55: such a message is `logError 6` at the unit it names, whose interrupt has another vector. -/
theorem illegalVectorReceivedIsLogged : Obligations.IllegalVectorReceivedIsLogged := by
  intro s rest k m hschedule hm hdel hvec after
  have hlog : arriveMessage m.origin m.del m.vec m.trig = logError 6 := by
    funext t
    rw [hdel, arriveMessage_fixed, arrive_of_low hvec]
  rw [step_of_deliver hschedule hm, hlog]
  refine ⟨fun hself => ?_, fun j w hself hget hid hfirst => ?_⟩
  · rw [atUnit_self (s := after) hself]
    exact ⟨_, logError_logsError 6 _, rfl, fun hstandard => logError_irr_low (s := after) hstandard 6 hvec⟩
  · rw [atUnit_other (s := after) hself ⟨hget, hid, hfirst⟩ fun t => (logError_kept 6 t).others]
    exact ⟨_, logError_logsError 6 _, rfl, fun hstandard =>
      logError_irr_low (s := { after with self := w, others := after.others.set j after.self }) hstandard 6 hvec⟩

/-! ### Local sources -/

theorem fireLvt_of_masked {x : LvtId} {s : State} (h : (s.self.lvt x).reg.getLsbD 16 = true) :
    fireLvt x s = s := if_pos h

theorem not_lvtMasked {reg : W32} (h : reg.getLsbD 16 = false) : ¬lvtMasked reg = true := Bool.eq_false_iff.1 h

theorem fireLvt_of_fixed {x : LvtId} {s : State} (hmask : (s.self.lvt x).reg.getLsbD 16 = false)
    (hdel : lvtDelivery x (s.self.lvt x).reg = delFixed) :
    fireLvt x s = arrive (.source x) ((s.self.lvt x).reg.setWidth 8) (lvtTrigger x (s.self.lvt x).reg) s := by
  unfold fireLvt
  dsimp only
  rw [if_neg (not_lvtMasked hmask), if_pos hdel, lvtVector_eq_setWidth]

theorem fireLvt_of_event {x : LvtId} {s : State} (hmask : (s.self.lvt x).reg.getLsbD 16 = false)
    (hdel : lvtDelivery x (s.self.lvt x).reg ≠ delFixed) :
    fireLvt x s
      = withSelf (handed (lvtDelivery x (s.self.lvt x).reg) ((s.self.lvt x).reg.setWidth 8) s.self) s := by
  unfold fireLvt
  dsimp only
  rw [if_neg (not_lvtMasked hmask), if_neg hdel, lvtVector_eq_setWidth]
  rfl

theorem lvtDelivery_entry (x : LocalSource) (reg : W32) : lvtDelivery x.entry reg = reg.extractLsb' 8 3 := by
  cases x <;> rfl

theorem lvtTrigger_entry (x : LocalSource) (reg : W32) :
    lvtTrigger x.entry reg = ((x == .lint0 || x == .lint1) && reg.getLsbD 15) := by
  cases x <;> rfl

theorem hasSource_iff {p : Params} {x : LocalSource} : hasSource p x = true ↔ x ≠ .cmci ∨ p.hasLvtCmci = true := by
  cases x <;> simp [hasSource]

/-- Settles O58: the three ways of `fireLvt`, for a source that the unit has. -/
theorem localSourceFires : Obligations.LocalSourceFires := by
  intro s rest x hschedule u reg vec level after
  have hstep : step s = fireSource x after := step_of_agent hschedule rfl
  rw [hstep]
  constructor
  · rintro rfl hcmci
    have hnone : hasSource after.self.hw .cmci = false := hcmci
    rw [fireSource, hnone]
    rfl
  · intro hsource
    rw [fireSource, if_pos (hasSource_iff.2 hsource)]
    refine ⟨fun hmask => ?_, fun hmask hfixed => ?_, fun hmask hevent => ?_⟩
    · rw [fireLvt_of_masked (s := after) hmask]
    · rw [fireLvt_of_fixed (s := after) hmask ((lvtDelivery_entry x _).trans hfixed), lvtTrigger_entry]
      exact ⟨_, arrive_arrives _ _ _ _, rfl⟩
    · rw [fireLvt_of_event (s := after) hmask (by rwa [lvtDelivery_entry]), lvtDelivery_entry]

/-! ### The timer -/

theorem timerTick_of_stopped {s : State} (h : s.self.running = false) : timerTick s = s := by
  simp [timerTick, h]

/-- The state in which a running timer's last tick has counted. -/
def countedOut (s : State) : State := withSelf { s.self with count := 0#32 } s

theorem timerTick_of_running {s : State} (hrunning : s.self.running = true) (hcount : s.self.count ≠ 0#32) :
    timerTick s =
      let t := s.mapSelf fun u => { u with count := u.count - 1#32 }
      if t.self.count = 0#32 then (fireLvt .timer t).mapSelf timerExpired else t :=
  if_pos (by rw [hrunning, Bool.true_and, bne_iff_ne]; exact hcount)

theorem timerTick_of_more {s : State} (hrunning : s.self.running = true) (hcount : 1 < s.self.count.toNat) :
    timerTick s = withSelf { s.self with count := s.self.count - 1#32 } s := by
  have hleft : s.self.count - 1#32 ≠ 0#32 := by bv_omega
  rw [timerTick_of_running hrunning (by bv_omega)]
  exact if_neg hleft

theorem timerTick_of_last {s : State} (hrunning : s.self.running = true) (hcount : s.self.count = 1#32) :
    timerTick s = (fireLvt .timer (countedOut s)).mapSelf timerExpired := by
  have hlast : s.self.count - 1#32 = 0#32 := by rw [hcount]; rfl
  have hcounted : s.mapSelf (fun u => { u with count := u.count - 1#32 }) = countedOut s := by
    rw [State.mapSelf, countedOut, hlast]
    rfl
  rw [timerTick_of_running hrunning (by rw [hcount]; decide), hcounted]
  exact if_pos rfl

theorem timerExpired_eq {u w : Apic} (hreg : w.lvtTimer.reg = u.lvtTimer.reg) (hicr : w.timerIcr = u.timerIcr)
    (hcount : w.count = 0#32) :
    timerExpired w
      = if u.lvtTimer.reg.getLsbD 17 then { w with count := u.timerIcr }
        else { w with count := 0#32, running := false } := by
  rw [timerExpired, hreg, hicr, ← hcount]

/-- Settles O56: the count falls; at 0 `fireLvt` keeps the timer's registers, so that what expires is the unit's own. -/
theorem timerTickMeetsItsObligation : Obligations.TimerTick := by
  intro s rest hschedule u after expired
  have hstep : step s = .next (timerTick after) := step_of_agent hschedule rfl
  rw [hstep]
  refine ⟨fun hstopped => ?_, fun hrunning hmore => ?_, fun hrunning hlast hmask => ?_, fun hrunning hlast hmask => ?_⟩
  · rw [timerTick_of_stopped (s := after) hstopped]
  · rw [timerTick_of_more (s := after) hrunning hmore]
  · rw [timerTick_of_last (s := after) hrunning hlast, fireLvt_of_masked (x := .timer) (s := countedOut after) hmask,
      State.mapSelf, timerExpired_eq (u := u) (w := (countedOut after).self) rfl rfl rfl]
    dsimp only [expired]
    split <;> rfl
  · rw [timerTick_of_last (s := after) hrunning hlast,
      fireLvt_of_fixed (x := .timer) (s := countedOut after) hmask rfl]
    have hkept := arrive_kept (.source .timer) (u.lvtTimer.reg.setWidth 8) false (countedOut after)
    refine ⟨_, arrive_arrives _ _ _ _, ?_⟩
    rw [State.mapSelf]
    exact congrArg (fun w => Host.Outcome.next (withSelf w _))
      (timerExpired_eq (hkept.lvtReg .timer) hkept.timerIcr hkept.count)

/-- The divide value by its three bits (10_state.md R52). -/
theorem divide_table (high : Bool) (low : BitVec 2) :
    (if BitVec.ofBool high ++ low = 7#3 then 1 else 2 ^ ((BitVec.ofBool high ++ low).toNat + 1))
      = [2, 4, 8, 16, 32, 64, 128, 1].getD ((if high then 4 else 0) + low.toNat) 1 := by
  revert high low
  decide

theorem divideValue_eq_clocksPerTick (dcr : W32) : divideValue dcr = clocksPerTick dcr := by
  have hlow : (dcr.extractLsb' 0 2).toNat = dcr.toNat % 4 := by rw [BitVec.extractLsb'_toNat, Nat.shiftRight_zero]
  rw [clocksPerTick, ← hlow]
  exact divide_table _ _

/-- Settles O57: a clock that completes the divide value is a tick with the fraction at 0. -/
theorem timerClockDivides : Obligations.TimerClockDivides := by
  intro s rest hschedule
  let after : State := { s with schedule := rest }
  have hstep : step s = .next (timerClock after) := step_of_agent hschedule rfl
  rw [hstep, timerClock, divideValue_eq_clocksPerTick]
  refine ⟨fun hstopped => ?_, fun hrunning hmore => ?_, fun hrunning hlast => ?_⟩
  · rw [show after.self.running = false from hstopped]
    rfl
  · rw [if_pos (show after.self.running = true from hrunning), if_neg (Nat.not_le.2 hmore)]
    rfl
  · rw [if_pos (show after.self.running = true from hrunning), if_pos hlast]
    exact (step_of_agent (s := withSelf { s.self with frac := 0 } { s with schedule := .tick :: rest }) rfl rfl).symm

end Sys2Proof.Machine
end

section
/-! PROOFS. O59, O60: RESET and INIT of a unit (70_reset_and_hazards.md R400, R403). RESET is `resetSelf`, whose
values are those of `apicAtReset`; INIT, by whichever way it comes, is `initSelf`, which is `inits` in the words of
the statements. -/
namespace Sys2Proof.Machine

open Sys2Proof.Statements

theorem extractLsb'_zero_eq_setWidth (v : W32) : v.extractLsb' 0 8 = v.setWidth 8 := lowByte_eq_setWidth v

theorem kept_by_reset (id : W32) (m : Msg) : (!(m.src == id || m.dst == id)) = (m.src != id && m.dst != id) :=
  Bool.not_or _ _

theorem resetSelf_eq (s : State) :
    resetSelf s =
      { s with
        self := { apicAtReset s.self.hw (Config.free s.draws) (Config.free (s.draws + 1)) with out := s.self.out }
        inflight := s.inflight.filter fun m => m.src != s.self.x2apicId && m.dst != s.self.x2apicId
        draws := s.draws + 2 } := by
  simp only [resetSelf, kept_by_reset]

/-- Settles O59: the step is `resetSelf`, and each register's value is the one `apicAtReset` writes. -/
theorem resetOfAUnit : Obligations.ResetOfAUnit := by
  intro s rest hschedule
  let after : State := { s with schedule := rest }
  have hstep : step s = .next (resetSelf after) := step_of_agent hschedule rfl
  refine ⟨Config.free s.draws, Config.free (s.draws + 1), hstep.trans (congrArg _ (resetSelf_eq after)), rfl, rfl,
    extractLsb'_zero_eq_setWidth _, rfl, rfl, rfl, rfl, rfl, rfl, rfl, rfl, rfl, rfl, rfl, rfl, rfl, fun x => ?_⟩
  cases x <;> rfl

/-! ### The messages that an INIT leaves -/

theorem survivors_sublist (id : W32) (n : Nat) (ms : List Msg) : (survivors id n ms).Sublist ms := by
  induction ms generalizing n with
  | nil => exact List.Sublist.refl _
  | cons m ms ih =>
    rw [survivors]
    split
    case isTrue => exact (ih _).cons m
    case isFalse => exact (ih _).cons_cons m

/-- An INIT drops messages to its own unit alone. -/
theorem survivors_filter (id : W32) (n : Nat) (ms : List Msg) :
    ((survivors id n ms).filter fun m : Msg => m.dst != id) = ms.filter fun m => m.dst != id := by
  induction ms generalizing n with
  | nil => rfl
  | cons m ms ih =>
    rw [survivors]
    split
    case isTrue hdropped => rw [ih, List.filter_cons_of_neg (by simp [hdropped.1])]
    case isFalse => rw [List.filter_cons, List.filter_cons, ih]

/-! ### The unit after INIT -/

theorem initRegisters_eq_afterInit (esr pending : W64) (u : Apic) :
    initRegisters esr pending u = afterInit (esr.extractLsb' 0 32) (pending.extractLsb' 0 32) u := rfl

theorem initSelf_inits (s : State) : inits s (initSelf s) := by
  refine ⟨rfl, rfl, rfl, survivors_sublist _ _ _, survivors_filter _ _ _, fun hoff => if_pos hoff, fun hon =>
    ⟨(Config.free s.draws).extractLsb' 0 32, (Config.free (s.draws + 1)).extractLsb' 0 32, ?_⟩⟩
  rw [← initRegisters_eq_afterInit]
  exact if_neg hon

theorem messageEvent_init (vec : Byte) (s : State) :
    messageEvent 5#3 vec s = initSelf (withSelf (handed 5#3 vec s.self) s) :=
  if_pos (e := coreEvent 5#3 vec s) (show (5#3 : BitVec 3) = delInit from rfl)

theorem arriveMessage_init (o : Origin) (vec : Byte) (level : Bool) (s : State) :
    arriveMessage o 5#3 vec level s = initSelf (withSelf (handed 5#3 vec s.self) s) :=
  (arriveMessage_other (by decide) (by decide) o vec level s).trans (messageEvent_init vec s)

/-- Settles O60: the platform's INIT is `initSelf`; a message's is too, at the unit it reaches, after its event. -/
theorem initOfAUnit : Obligations.InitOfAUnit := by
  refine ⟨fun s rest hschedule => ⟨_, initSelf_inits _, step_of_agent hschedule rfl⟩,
    fun s rest k m hschedule hm hdel => ?_, fun s rest vec level hschedule => ?_⟩
  · intro after
    rw [step_of_deliver hschedule hm, hdel]
    refine ⟨fun hself => ?_, fun j w hself hget hid hfirst => ?_⟩
    · rw [atUnit_self (s := after) hself, arriveMessage_init]
      exact ⟨_, initSelf_inits _, rfl⟩
    · rw [atUnit_other (s := after) hself ⟨hget, hid, hfirst⟩ (arriveMessage_others _ _ _ _), arriveMessage_init]
      exact ⟨_, initSelf_inits _, rfl⟩
  · have hstep : step s = .next (arriveMessage .sent 5#3 vec level { s with schedule := rest }) :=
      step_of_agent hschedule rfl
    rw [hstep, arriveMessage_init]
    exact ⟨_, initSelf_inits _, rfl⟩

end Sys2Proof.Machine
end

section
/-! PROOFS. The bit fields of the registers (10_state.md R28 to R53): the model takes fields out and puts words
together, the statements shift and mask. -/

namespace Sys2Proof.Machine

open Sys2Proof.Statements

/-! ### Words put together -/

theorem toNat_append_add {v w : Nat} (a : BitVec v) (b : BitVec w) : (a ++ b).toNat = a.toNat * 2 ^ w + b.toNat := by
  rw [BitVec.toNat_append, ← Nat.shiftLeft_add_eq_or_of_lt b.isLt, Nat.shiftLeft_eq]

theorem append_eq_append_iff {v w : Nat} {a c : BitVec v} {b d : BitVec w} : a ++ b = c ++ d ↔ a = c ∧ b = d := by
  refine ⟨fun h => ⟨?_, ?_⟩, fun ⟨hac, hbd⟩ => by rw [hac, hbd]⟩
  · rw [← BitVec.extractLsb'_append_eq_left (a := a) (b := b), h, BitVec.extractLsb'_append_eq_left]
  · rw [← BitVec.extractLsb'_append_eq_right (a := a) (b := b), h, BitVec.extractLsb'_append_eq_right]

theorem append_eq_shift_or {v w : Nat} (a : BitVec v) (b : BitVec w) :
    a ++ b = (a.setWidth (v + w) <<< w) ||| b.setWidth (v + w) := by
  apply BitVec.eq_of_toNat_eq
  rw [BitVec.toNat_append, BitVec.toNat_or, BitVec.toNat_shiftLeft, BitVec.toNat_setWidth_of_le (by omega),
    BitVec.toNat_setWidth_of_le (by omega), Nat.mod_eq_of_lt]
  rw [Nat.shiftLeft_eq, Nat.pow_add]
  exact Nat.mul_lt_mul_of_pos_right a.isLt (Nat.two_pow_pos w)

/-! ### Fields taken out -/

theorem lowHalf_eq_setWidth (val : W64) :
    lowHalf val = val.setWidth 32 := (BitVec.setWidth_eq_extractLsb' (by decide)).symm

theorem highHalf_eq_shift (val : W64) : highHalf val = (val >>> 32).setWidth 32 :=
  BitVec.setWidth_ushiftRight_eq_extractLsb.symm

theorem bank_eq_shift (b : Bits256) (k : BitVec 3) : bank b k = (b >>> (32 * k.toNat)).setWidth 32 :=
  BitVec.setWidth_ushiftRight_eq_extractLsb.symm

theorem append_halves (val : W64) : highHalf val ++ lowHalf val = val := BitVec.extractLsb'_append_extractLsb'

@[simp] theorem lowHalf_append (high low : W32) : lowHalf (high ++ low) = low := BitVec.extractLsb'_append_eq_right

@[simp] theorem highHalf_append (high low : W32) : highHalf (high ++ low) = high := BitVec.extractLsb'_append_eq_left

/-- Masking with the low `k` bits is taking the number modulo `2 ^ k`. -/
theorem toNat_and_lowMask {w k : Nat} (h : k ≤ w) (v : BitVec w) : (v &&& lowMask w k).toNat = v.toNat % 2 ^ k := by
  have hpow : 2 ^ k - 1 < 2 ^ w :=
    Nat.lt_of_lt_of_le (Nat.sub_one_lt (Nat.two_pow_pos k).ne') (Nat.pow_le_pow_right (by decide) h)
  rw [BitVec.toNat_and, lowMask, BitVec.toNat_ofNat, Nat.mod_eq_of_lt hpow, Nat.and_two_pow_sub_one_eq_mod]

/-! ### Data words and their masks -/

theorem zext64_eq_append (v : W32) : zext64 v = 0#32 ++ v := BitVec.setWidth_eq_append (by decide)

/-- Bits 63:32 of a 32-bit register's data word are reserved: a mask acts on the low half (41_msr_access.md R177). -/
theorem zext64_and_not_wordMask (v mask : W32) : zext64 v &&& ~~~(wordMask mask) = (v &&& ~~~mask).setWidth 64 := by
  rw [← zext64, zext64_eq_append, zext64_eq_append, wordMask, BitVec.not_append, BitVec.and_append, BitVec.zero_and]

/-- A word passes a mask exactly when both halves do. -/
theorem and_append_eq_zero_iff {val : W64} {high low : W32} :
    val &&& (high ++ low) = 0#64 ↔ highHalf val &&& high = 0#32 ∧ lowHalf val &&& low = 0#32 := by
  have hzero : (0#64 : W64) = (0#32 : W32) ++ (0#32 : W32) := rfl
  rw [hzero, ← append_eq_append_iff, ← BitVec.and_append, append_halves]

theorem and_wordMask_eq_zero_iff {val : W64} {mask : W32} :
    val &&& wordMask mask = 0#64 ↔ highHalf val = 0#32 ∧ lowHalf val &&& mask = 0#32 := by
  rw [wordMask, and_append_eq_zero_iff, show (0xFFFFFFFF#32 : W32) = BitVec.allOnes 32 from rfl, BitVec.and_allOnes]

/-- The ICR's high half is its destination, so its mask is that of its low half (10_state.md R43). -/
theorem and_rsvdIcr_eq_zero_iff {val : W64} {p : Params} :
    val &&& rsvdIcr p = 0#64 ↔ val.setWidth 32 &&& p.rsvd.icr = 0#32 := by
  rw [rsvdIcr, and_append_eq_zero_iff, BitVec.and_zero, lowHalf_eq_setWidth]
  exact and_iff_right rfl

/-! ### The identification registers -/

theorem versionOf_eq (p : Params) :
    versionOf p =
      BitVec.ofNat 32 ((if p.directedEoi then 2 ^ 24 else 0) + p.maxLvt.toNat * 2 ^ 16 + p.version.toNat) := by
  have hlvt := p.maxLvt.isLt
  have hversion := p.version.isLt
  apply BitVec.eq_of_toNat_eq
  simp only [versionOf, toNat_append_add, BitVec.toNat_ofNat]
  cases p.directedEoi
  · simp only [BitVec.toNat_ofBool, Bool.toNat_false, Bool.false_eq_true, if_false]
    omega
  · simp only [BitVec.toNat_ofBool, Bool.toNat_true, if_true]
    omega

theorem idXapic_eq_shift (u : Apic) : u.idXapic = u.xapicId.setWidth 32 <<< 24 := by
  rw [Apic.idXapic, append_eq_shift_or]
  exact BitVec.or_zero

/-- An ID that obeys 10_state.md R30 has no bit at or above `ID_BITS`. -/
theorem x2apicId_of_wf {u : Apic} (h : u.hw.wf = true) : u.x2apicId = u.hw.x2apicIdHw := by
  simp only [Params.wf, Bool.and_eq_true, decide_eq_true_eq] at h
  obtain ⟨⟨⟨⟨⟨⟨⟨⟨-, hbits⟩, hid⟩, -⟩, -⟩, -⟩, -⟩, -⟩, -⟩ := h
  apply BitVec.eq_of_toNat_eq
  rw [Apic.x2apicId, x2apicIdOf, toNat_and_lowMask hbits, Nat.mod_eq_of_lt (by omega)]

theorem word_eq_fields (b : ApicBase) :
    b.word = (b.page.setWidth 64 <<< 12) ||| ((BitVec.ofBool b.en).setWidth 64 <<< 11)
      ||| ((BitVec.ofBool b.extd).setWidth 64 <<< 10) ||| ((BitVec.ofBool b.bsp).setWidth 64 <<< 8) := by
  have hflags : ∀ en extd bsp : Bool,
      (BitVec.ofBool en ++ (BitVec.ofBool extd ++ (0#1 ++ (BitVec.ofBool bsp ++ 0#8)))).setWidth 64
        = ((BitVec.ofBool en).setWidth 64 <<< 11) ||| ((BitVec.ofBool extd).setWidth 64 <<< 10)
          ||| ((BitVec.ofBool bsp).setWidth 64 <<< 8) := by decide
  rw [ApicBase.word, append_eq_shift_or, hflags, BitVec.or_assoc, BitVec.or_assoc, BitVec.or_assoc]

/-! ### The logical x2APIC ID (42_registers_id_to_esr.md R231) -/

theorem toNat_field (v : W32) (start len : Nat) : (v.extractLsb' start len).toNat = v.toNat / 2 ^ start % 2 ^ len := by
  rw [BitVec.extractLsb'_toNat, Nat.shiftRight_eq_div_pow]

theorem logicalX2apicId_cluster (id : W32) : logicalX2apicId id >>> 16 = (id >>> 4) &&& 0x0000FFFF#32 := by
  have hbit : (1#32 <<< (id.extractLsb' 0 4).toNat) >>> 16 = (0#32 : W32) := by
    generalize id.extractLsb' 0 4 = low
    revert low
    decide
  have hfield : (id.extractLsb' 4 16 ++ 0#16 : W32) >>> 16 = (id >>> 4) &&& lowMask 32 16 := by
    apply BitVec.eq_of_toNat_eq
    rw [toNat_and_lowMask (by decide), BitVec.toNat_ushiftRight, BitVec.toNat_ushiftRight, toNat_append_add,
      toNat_field,
      Nat.shiftRight_eq_div_pow, Nat.shiftRight_eq_div_pow, BitVec.toNat_ofNat]
    omega
  rw [logicalX2apicId, BitVec.ushiftRight_or_distrib, hbit, BitVec.or_zero, hfield]
  rfl

theorem logicalX2apicId_bit (id : W32) {j : Nat} (hj : j < 16) :
    (logicalX2apicId id).getLsbD j = true ↔ j = id.toNat % 16 := by
  have hlow : (id.extractLsb' 0 4).toNat = id.toNat % 16 := by
    rw [toNat_field]
    omega
  rw [logicalX2apicId, hlow, BitVec.getLsbD_or, BitVec.getLsbD_append, if_pos hj, BitVec.getLsbD_shiftLeft]
  simp only [BitVec.getLsbD_zero, Bool.false_or, BitVec.getLsbD_one, Bool.and_eq_true, decide_eq_true_eq,
    Bool.not_eq_true', decide_eq_false_iff_not]
  omega

/-! ### The results of CPUID -/

theorem cpuid01Ebx_id (p : Params) (free : W32) : cpuid01Ebx p free >>> 24 = p.x2apicIdHw &&& 0x000000FF#32 := by
  have hfree := (free.extractLsb' 0 24).isLt
  change _ = p.x2apicIdHw &&& lowMask 32 8
  apply BitVec.eq_of_toNat_eq
  rw [toNat_and_lowMask (by decide), BitVec.toNat_ushiftRight, cpuid01Ebx, toNat_append_add, toNat_field,
    Nat.shiftRight_eq_div_pow]
  omega

theorem cpuid01Ecx_support (p : Params) (free : W32) : (cpuid01Ecx p free).getLsbD 21 = p.x2apicSupported := by
  rw [cpuid01Ecx, BitVec.getLsbD_or, BitVec.getLsbD_and, show (~~~0x00200000#32 : W32).getLsbD 21 = false from rfl,
    Bool.and_false, Bool.false_or]
  cases p.x2apicSupported <;> rfl

theorem cpuid0b_ecx (kind : Byte) (n : W32) :
    (0#16 ++ (kind ++ n.extractLsb' 0 8) : W32) = (kind.setWidth 32 <<< 8) ||| (n &&& 0x000000FF#32) := by
  have hkind := kind.isLt
  have hn : n.toNat % 2 ^ 8 < 2 ^ 8 := Nat.mod_lt _ (by decide)
  change _ = (kind.setWidth 32 <<< 8) ||| (n &&& lowMask 32 8)
  apply BitVec.eq_of_toNat_eq
  rw [BitVec.toNat_or, toNat_and_lowMask (by decide), BitVec.toNat_shiftLeft, BitVec.toNat_setWidth_of_le (by decide),
    Nat.mod_eq_of_lt (by rw [Nat.shiftLeft_eq]; omega), ← Nat.shiftLeft_add_eq_or_of_lt hn, toNat_append_add,
    toNat_append_add, toNat_field, Nat.shiftLeft_eq, BitVec.toNat_ofNat]
  omega

/-! ### The ICR's low half in xAPIC mode -/

theorem icrLowXapic_stored (s : State) :
    icrLowXapic s &&& 0xFFFFEFFF#32 = s.self.icr.setWidth 32 &&& 0xFFFFEFFF#32 := by
  have hstatus : (if deliveryPending s then 0x00001000#32 else 0#32 : W32) &&& 0xFFFFEFFF#32 = 0#32 := by
    cases deliveryPending s <;> rfl
  rw [icrLowXapic, BitVec.and_comm, BitVec.and_or_distrib_left, BitVec.and_comm 0xFFFFEFFF#32 (ite _ _ _), hstatus,
    BitVec.or_zero, BitVec.and_comm, BitVec.and_assoc, lowHalf_eq_setWidth]
  rfl

theorem icrLowXapic_status (s : State) :
    (icrLowXapic s).getLsbD 12 = true ↔ ∃ m ∈ s.inflight, m.src = s.self.x2apicId ∧ m.origin = .sent := by
  have hpending : (icrLowXapic s).getLsbD 12 = deliveryPending s := by
    rw [icrLowXapic, BitVec.getLsbD_or, BitVec.getLsbD_and, show (~~~0x00001000#32 : W32).getLsbD 12 = false from rfl,
      Bool.and_false, Bool.false_or]
    cases deliveryPending s <;> rfl
  rw [hpending, deliveryPending, List.any_eq_true]
  simp only [Bool.and_eq_true, beq_iff_eq]

end Sys2Proof.Machine
end

section
/-! PROOFS. O10, O15, O23, O25, O26, O27, O28, O37, O45, O46, O47, O48, O49: the registers read and written, in both
modes. Each statement is a table of rows; each row is its access template, and its value or effect is the model's by
the bit fields above. The seven LVT registers are one shape (`LvtRowIs`). -/

namespace Sys2Proof.Machine

open Sys2Proof.Statements

/-! ### Reads of x2APIC mode -/

theorem rdmsrMasked_of_hears {s : State} (h : hears s) (mask v : W32) :
    rdmsrMasked (wordMask mask) (zext64 v) s = .next (withAnswer (.value ((v &&& ~~~mask).setWidth 64)) s) := by
  rw [rdmsrMasked, zext64_and_not_wordMask]
  exact rdmsrThen_of_hears h _ s

/-- Settles O23: each row is an RDMSR of its register, with or without a mask. -/
theorem rdmsrAnswersTheRegister : Obligations.RdmsrAnswersTheRegister := by
  intro s k hs r hr
  simp only [plainReads, List.mem_cons, List.not_mem_nil, or_false, ← versionOf_eq, ← bank_eq_shift] at hr
  obtain rfl | rfl | rfl | rfl | rfl | rfl | rfl | rfl | rfl | rfl | rfl | rfl := hr
  case inr.inr.inl | inr.inr.inr.inr.inl | inr.inr.inr.inr.inr.inr.inr.inr.inr.inl |
      inr.inr.inr.inr.inr.inr.inr.inr.inr.inr.inr => exact rdmsrMasked_of_hears hs _ _
  all_goals exact rdmsrThen_of_hears hs _ s

/-- Settles O25: the read answers the run's next free word without the bits of `RSVD[ICR]`. -/
theorem icrReadAnswersAnOpenValue : Obligations.IcrReadAnswersAnOpenValue :=
  fun s hs => rdmsrThen_of_hears hs _ (s.drew 1)

/-- Settles O37: at CPL 0 the read is the word of the fields, in every mode. -/
theorem baseReadAnswersTheFields : Obligations.BaseReadAnswersTheFields := by
  intro s hcpl
  rw [← word_eq_fields]
  exact congrArg Host.Outcome.next (if_pos hcpl)

/-- Settles O45: the fields of the ID, and the LDR that the invariant says. -/
theorem logicalIdOfAUnit : Obligations.LogicalIdOfAUnit := by
  refine ⟨fun id => ⟨logicalX2apicId_cluster id, fun j hj => logicalX2apicId_bit id hj⟩, fun s hs hids => ?_⟩
  rw [← hids.ldr hs.2]
  exact rdmsrThen_of_hears hs _ s

/-! ### CPUID -/

theorem cpuidLevel_of_some {p : Params} {n : W32} {l : CpuidLevel}
    (h : (p.cpuid0B.find? fun l => l.number == n) = some l) : cpuidLevel p n = l := by
  rw [cpuidLevel, h, Option.getD_some]

theorem cpuidLevel_of_absent {p : Params} {n : W32} (h : ∀ l ∈ p.cpuid0B, l.number ≠ n) :
    cpuidLevel p n = { number := n, shift := 0#5, count := 0#16, kind := 0#8 } := by
  have hnone : (p.cpuid0B.find? fun l => l.number == n) = none :=
    List.find?_eq_none.2 fun l hl => by rw [beq_iff_eq]; exact h l hl
  rw [cpuidLevel, hnone, Option.getD_none]

theorem exec_cpuid0bh (n : W32) (s : State) :
    exec (.cpuid0bh n) s = .next (withAnswer (.cpuid ((cpuidLevel s.self.hw n).shift.setWidth 32)
      ((cpuidLevel s.self.hw n).count.setWidth 32)
      (((cpuidLevel s.self.hw n).kind.setWidth 32 <<< 8) ||| (n &&& 0x000000FF#32)) s.self.x2apicId) s) := by
  rw [← cpuid0b_ecx]
  rfl

/-- Settles O46: leaf 01H by its two fields, leaf 0BH by its level. -/
theorem cpuidReportsTheIdentity : Obligations.CpuidReportsTheIdentity := by
  intro s n
  refine ⟨⟨_, _, _, _, cpuid01Ebx_id s.self.hw _, cpuid01Ecx_support s.self.hw _, rfl⟩, fun l hl => ?_,
    fun habsent => ?_⟩
  · rw [exec_cpuid0bh, cpuidLevel_of_some hl]
  · rw [exec_cpuid0bh, cpuidLevel_of_absent habsent]
    exact congrArg (fun c => Host.Outcome.next (withAnswer (.cpuid 0#32 0#32 c s.self.x2apicId) s)) (BitVec.zero_or)

/-- Settles O47: the x2APIC ID is the hardware's, whose bits above `ID_BITS` are zero. -/
theorem cpuidAgreesWithTheIdRegister : Obligations.CpuidAgreesWithTheIdRegister := by
  intro s n hwf
  rw [← x2apicId_of_wf hwf]
  exact ⟨⟨_, _, _, exec_cpuid0bh n s⟩, fun hs => rdmsrThen_of_hears hs _ s⟩

/-! ### Writes of x2APIC mode -/

theorem wrmsr_of_reserved {rsvd val : W64} (h : val &&& rsvd ≠ 0#64) (f : State → State) (s : State) :
    wrmsr rsvd val f s = .next (gp s) := by
  rw [wrmsr, beq_false_of_ne h, Bool.and_false]
  rfl

theorem val_eq_zext64_of_wordMask {val : W64} {mask : W32} (h : val &&& wordMask mask = 0#64) :
    val = zext64 (lowHalf val) := by
  rw [zext64_eq_append, ← (and_wordMask_eq_zero_iff.1 h).1, append_halves]

theorem bne_zero_of_wordMask {val : W64} {mask : W32} (h : val &&& wordMask mask = 0#64) :
    (lowHalf val != 0#32) = (val != 0#64) := by
  have hiff : lowHalf val = 0#32 ↔ val = 0#64 := by
    refine ⟨fun hlow => ?_, fun hzero => by rw [hzero]; rfl⟩
    rw [val_eq_zext64_of_wordMask h, hlow]
    rfl
  simp only [bne, Bool.beq_eq_decide_eq, hiff]

/-- Settles O27: each row is a WRMSR whose write rule stores the low half. -/
theorem wrmsrWritesTheRegister : Obligations.WrmsrWritesTheRegister := by
  intro s val hs r hr hmask
  simp only [plainWrites, List.mem_cons, List.not_mem_nil, or_false] at hr
  obtain rfl | rfl | rfl | rfl | rfl := hr
  · rw [BitVec.setWidth_eq_extractLsb' (by decide)]
    exact wrmsr_of_hears hs hmask _
  · rw [← lowHalf_eq_setWidth]
    exact wrmsr_of_hears hs hmask _
  · exact wrmsr_of_hears hs hmask _
  · rw [← lowHalf_eq_setWidth, ← bne_zero_of_wordMask hmask]
    exact wrmsr_of_hears hs hmask _
  · rw [← lowHalf_eq_setWidth]
    exact wrmsr_of_hears hs hmask _

theorem execWrmsrIcr_of_reserved {s : State} {val : W64} (h : val &&& rsvdIcr s.self.hw ≠ 0#64) :
    execWrmsrIcr val s = .next (gp s) := by
  rw [execWrmsrIcr, beq_false_of_ne h, Bool.and_false, Bool.false_and]
  exact wrmsr_of_reserved h _ s

/-! ### The general-protection exceptions of the table -/

theorem otherReservedRows_offset {val : W64} {r : MsrRow} (hr : r ∈ otherReservedRows val) :
    ∃ off, r.addr = 2#22 ++ off ∧ rdmsrAt off = r.read ∧ wrmsrAt off val = r.write := by
  simp only [otherReservedRows, List.mem_cons, List.not_mem_nil, or_false] at hr
  obtain rfl | rfl | rfl | rfl | rfl | rfl | rfl | rfl | rfl | rfl | rfl | rfl | rfl | rfl | rfl | rfl := hr
  · exact ⟨0x000#10, rfl, rfl, rfl⟩
  · exact ⟨0x001#10, rfl, rfl, rfl⟩
  · exact ⟨0x004#10, rfl, rfl, rfl⟩
  · exact ⟨0x005#10, rfl, rfl, rfl⟩
  · exact ⟨0x006#10, rfl, rfl, rfl⟩
  · exact ⟨0x007#10, rfl, rfl, rfl⟩
  · exact ⟨0x009#10, rfl, rfl, rfl⟩
  · exact ⟨0x00C#10, rfl, rfl, rfl⟩
  · exact ⟨0x00E#10, rfl, rfl, rfl⟩
  · exact ⟨0x029#10, rfl, rfl, rfl⟩
  · exact ⟨0x02A#10, rfl, rfl, rfl⟩
  · exact ⟨0x02B#10, rfl, rfl, rfl⟩
  · exact ⟨0x02C#10, rfl, rfl, rfl⟩
  · exact ⟨0x02D#10, rfl, rfl, rfl⟩
  · exact ⟨0x02E#10, rfl, rfl, rfl⟩
  · exact ⟨0x031#10, rfl, rfl, rfl⟩

theorem exec_otherReservedRows {val : W64} {r : MsrRow} (hr : r ∈ otherReservedRows val) (s : State) :
    exec r.read s = .next (gp s) ∧ exec r.write s = .next (gp s) := by
  simp only [otherReservedRows, List.mem_cons, List.not_mem_nil, or_false] at hr
  obtain rfl | rfl | rfl | rfl | rfl | rfl | rfl | rfl | rfl | rfl | rfl | rfl | rfl | rfl | rfl | rfl := hr <;>
    exact ⟨alwaysGP_eq_next_gp s, alwaysGP_eq_next_gp s⟩

/-- Settles O10: every row is `alwaysGP`, 82FH where there is no LVT_CMCI. -/
theorem forbiddenAccessesRaiseGp : Obligations.ForbiddenAccessesRaiseGp := by
  intro s val
  refine ⟨fun r hr => ?_, fun hcmci => ⟨?_, ?_⟩, fun k i hi => ?_, rfl⟩
  · obtain ⟨off, haddr, hread, hwrite⟩ := otherReservedRows_offset hr
    obtain ⟨hgpRead, hgpWrite⟩ := exec_otherReservedRows hr s
    rw [haddr]
    exact ⟨decode_rdmsrOf_eq hread, hgpRead, decode_wrmsrOf_eq hwrite, hgpWrite⟩
  · exact if_neg (Bool.eq_false_iff.1 hcmci)
  · exact if_neg (Bool.eq_false_iff.1 hcmci)
  · simp only [readOnlyWrites, List.mem_cons, List.not_mem_nil, or_false] at hi
    obtain rfl | rfl | rfl | rfl | rfl | rfl | rfl | rfl := hi <;> rfl

/-! ### The LVT registers -/

/-- The row of the statements is the model's entry: its masks and its four accesses. -/
structure LvtRowIs (s : State) (val : W64) (page : PageNo) (data : W32) (r : LvtRow) : Prop where
  wr : r.wr = lvtWr r.id
  ro : r.ro = lvtRo r.id
  rsvd : wordMask r.rsvd = rsvdLvt s.self.hw r.id
  read : exec r.read s = readLvt r.id s
  write : exec r.write s = writeLvt r.id val s
  load : exec r.load s = loadLvt page r.id s
  store : exec r.store s = storeLvtXapic page r.id data s

theorem lvtRowIs_of_has {s : State} {val : W64} {page : PageNo} {data : W32} {r : LvtRow}
    (h : hasLvtRow s.self.hw val page data r) : LvtRowIs s val page data r := by
  rcases h with h | ⟨hcmci, rfl⟩
  · simp only [lvtRows, List.mem_cons, List.not_mem_nil, or_false] at h
    obtain rfl | rfl | rfl | rfl | rfl | rfl := h <;> exact ⟨rfl, rfl, rfl, rfl, rfl, rfl, rfl⟩
  · exact ⟨rfl, rfl, rfl, if_pos hcmci, if_pos hcmci, if_pos ⟨rfl, hcmci⟩, if_pos ⟨rfl, hcmci⟩⟩

theorem lvtWr_and_lvtRo (x : LvtId) : lvtWr x &&& lvtRo x = 0#32 := by cases x <;> rfl

theorem lvtWr_and_not_lvtRo (x : LvtId) : lvtWr x &&& ~~~(lvtRo x) = lvtWr x := by cases x <;> rfl

theorem openStatus_and_not_lvtRo (x : LvtId) (s : State) : openStatus x s &&& ~~~(lvtRo x) = 0#32 := by
  unfold openStatus
  split
  · exact BitVec.and_not_self _
  · exact BitVec.zero_and

theorem openStatus_of_nonePending {x : LvtId} {s : State} (h : nonePending x s) : openStatus x s = 0#32 := by
  obtain ⟨hraised, hheld⟩ := h
  refine if_neg ?_
  rw [sourcePending, hraised, bne_self_eq_false, Bool.false_or, List.any_eq_true]
  rintro ⟨m, hm, hmatch⟩
  rw [Bool.and_eq_true, beq_iff_eq, beq_iff_eq] at hmatch
  exact hheld m hm hmatch.1 hmatch.2

/-- The writable bits of an LVT register read as stored. -/
theorem lvtWord_writable (x : LvtId) (free : W64) (s : State) :
    lvtWord x free s &&& ~~~(lvtRo x) = (s.self.lvt x).reg &&& lvtWr x := by
  rw [lvtWord, BitVec.and_comm, BitVec.and_or_distrib_left, BitVec.and_comm _ (_ &&& lvtWr x),
    BitVec.and_comm _ (_ &&& openStatus x s), BitVec.and_assoc, BitVec.and_assoc, lvtWr_and_not_lvtRo,
    openStatus_and_not_lvtRo, BitVec.and_zero, BitVec.or_zero]

/-- The status bits of an LVT register read as zero while no interrupt of its source is pending. -/
theorem lvtWord_status {x : LvtId} {s : State} (h : nonePending x s) (free : W64) :
    lvtWord x free s &&& lvtRo x = 0#32 := by
  rw [lvtWord, openStatus_of_nonePending h, BitVec.and_zero, BitVec.or_zero, BitVec.and_assoc, lvtWr_and_lvtRo,
    BitVec.and_zero]

theorem lvtWord_shows {r : LvtRow} (hwr : r.wr = lvtWr r.id) (hro : r.ro = lvtRo r.id) (hidden : W32) (free : W64)
    (s : State) : showsLvt r hidden s (lvtWord r.id free s &&& ~~~hidden) := by
  rw [showsLvt, hwr, hro]
  refine ⟨?_, fun hnone => ?_⟩
  · rw [BitVec.and_assoc, BitVec.and_comm (~~~hidden), ← BitVec.and_assoc, lvtWord_writable]
  · rw [BitVec.and_assoc, BitVec.and_comm (~~~hidden), ← BitVec.and_assoc, lvtWord_status hnone, BitVec.zero_and]

/-- Settles O26: both reads answer `lvtWord`, the RDMSR without the reserved bits. -/
theorem lvtReadsAnswerTheEntry : Obligations.LvtReadsAnswerTheEntry := by
  intro s val page data r hr
  obtain ⟨hwr, hro, hrsvd, hread, -, hload, -⟩ := lvtRowIs_of_has hr
  refine ⟨fun hs => ⟨_, lvtWord_shows hwr hro r.rsvd s.freeWord s, ?_⟩, fun hs =>
    ⟨lvtWord r.id s.freeWord s, ?_, hload.trans (mmio_of_atPage hs _)⟩⟩
  · rw [hread, readLvt, ← hrsvd, zext64_and_not_wordMask]
    exact rdmsrThen_of_hears hs _ (s.drew 1)
  · have hshows := lvtWord_shows hwr hro 0#32 s.freeWord s
    rwa [show (~~~0#32 : W32) = BitVec.allOnes 32 from rfl, BitVec.and_allOnes] at hshows

theorem and_or_eq_zero_iff {w : Nat} {v a b : BitVec w} : v &&& (a ||| b) = 0#w ↔ v &&& a = 0#w ∧ v &&& b = 0#w := by
  rw [BitVec.and_or_distrib_left, BitVec.or_eq_zero_iff]

/-- A word passes the checks of an LVT write when it has no reserved bit, and no status bit unless they are ignored. -/
theorem and_faultingLvtBits_eq_zero_iff {x : LvtId} {p : Params} {val : W64} :
    val &&& faultingLvtBits x p = 0#64
      ↔ val &&& rsvdLvt p x = 0#64 ∧ (p.roBitWrite = .fault → val &&& zext64 (lvtRo x) = 0#64) := by
  rw [faultingLvtBits, and_or_eq_zero_iff]
  refine and_congr_right fun _ => ?_
  split
  case isTrue h => exact ⟨fun hv _ => hv, fun hv => hv h⟩
  case isFalse h => exact ⟨fun _ hf => absurd hf h, fun _ => BitVec.and_zero⟩

/-- Settles O28: the WRMSR's checks are the two of its hypotheses; the STORE discards what is reserved. -/
theorem lvtWritesStoreTheWritableBits : Obligations.LvtWritesStoreTheWritableBits := by
  intro s val page data r hr
  obtain ⟨hwr, hro, hrsvd, -, hwrite, -, hstore⟩ := lvtRowIs_of_has hr
  refine ⟨fun hs hreserved hstatus => ?_, fun hs => ?_⟩
  · have hclean : val &&& faultingLvtBits r.id s.self.hw = 0#64 := by
      have hmask : val &&& rsvdLvt s.self.hw r.id = 0#64 := by
        rw [← hrsvd]
        exact hreserved
      refine and_faultingLvtBits_eq_zero_iff.2 ⟨hmask, fun hfault => ?_⟩
      rcases hstatus with hignore | hzero
      · rw [hignore] at hfault
        cases hfault
      · exact hro ▸ hzero
    rw [hwrite, hwr, ← lowHalf_eq_setWidth]
    exact wrmsr_of_hears hs hclean _
  · have hbits : data &&& lvtBits s.self.hw r.id &&& lvtWr r.id = data &&& r.wr &&& ~~~r.rsvd := by
      have hlow : lowHalf (rsvdLvt s.self.hw r.id) = r.rsvd := by rw [← hrsvd, wordMask, lowHalf_append]
      rw [lvtBits, hlow, hwr, BitVec.and_assoc, BitVec.and_comm (lvtWr r.id &&& _), ← BitVec.and_assoc (lvtWr r.id),
        BitVec.and_self, BitVec.and_assoc]
    rw [hstore, ← hbits]
    exact store_of_atPage hs _

/-! ### Reserved bits -/

theorem unitsAtReset_rsvd {u : Apic} (n : Nat) (ids : List W32) (h : u ∈ unitsAtReset n ids) :
    u.hw.rsvd = Config.defaultRsvd := by
  induction ids generalizing n with
  | nil => cases h
  | cons id ids ih =>
    rcases List.mem_cons.1 h with rfl | hrest
    · rfl
    · exact ih (n + 1) hrest

/-- Settles O15: each row is a WRMSR with the mask the statement gives it, and so is each LVT register's. -/
theorem reservedBitsRaiseGp : Obligations.ReservedBitsRaiseGp := by
  refine ⟨fun s val => ⟨fun r hr hmask => ?_, fun page data r hr => ?_⟩, fun u hu => ?_⟩
  · simp only [writableRows, List.mem_cons, List.not_mem_nil, or_false] at hr
    obtain rfl | rfl | rfl | rfl | rfl | rfl | rfl | rfl := hr
    case inr.inr.inr.inr.inl => exact execWrmsrIcr_of_reserved hmask
    all_goals exact wrmsr_of_reserved hmask _ s
  · obtain ⟨-, hro, hrsvd, -, hwrite, -, -⟩ := lvtRowIs_of_has hr
    rw [hwrite]
    refine ⟨fun hmask => ?_, fun hfault hstatus => ?_⟩
    · change val &&& wordMask r.rsvd ≠ 0#64 at hmask
      rw [hrsvd] at hmask
      exact wrmsr_of_reserved (fun hzero => hmask (and_faultingLvtBits_eq_zero_iff.1 hzero).1) _ s
    · exact wrmsr_of_reserved (fun hzero => hstatus (hro ▸ (and_faultingLvtBits_eq_zero_iff.1 hzero).2 hfault)) _ s
  · rcases List.mem_cons.1 hu with rfl | hother
    · rfl
    · exact unitsAtReset_rsvd 1 _ hother

/-! ### Reads and writes of xAPIC mode -/

/-- Settles O48: each row is a LOAD of its register, and the ICR's low half is `icrLowXapic`. -/
theorem loadAnswersTheRegister : Obligations.LoadAnswersTheRegister := by
  intro s page k hs
  refine ⟨fun r hr => ?_, icrLowXapic s, load_of_atPage hs _, icrLowXapic_stored s, icrLowXapic_status s⟩
  simp only [plainLoads, List.mem_cons, List.not_mem_nil, or_false, ← versionOf_eq, ← bank_eq_shift, ← idXapic_eq_shift,
    ← highHalf_eq_shift] at hr
  obtain rfl | rfl | rfl | rfl | rfl | rfl | rfl | rfl | rfl | rfl | rfl | rfl | rfl | rfl := hr <;>
    exact load_of_atPage hs _

theorem svrBitsXapic_eq (p : Params) : svrBitsXapic p = ~~~(svrRsvd p) ||| 0x00000200#32 := by
  rw [svrBitsXapic, rsvdSvr, wordMask, lowHalf_append]
  rfl

/-- Settles O49: each row is a STORE whose write rule is the update beside it. -/
theorem storeWritesTheRegister : Obligations.StoreWritesTheRegister := by
  intro s page val hs r hr
  simp only [plainStores, List.mem_cons, List.not_mem_nil, or_false, ← lowHalf_eq_setWidth, ← lowByte_eq_setWidth,
    ← svrBitsXapic_eq] at hr
  obtain rfl | rfl | rfl | rfl | rfl | rfl | rfl | rfl | rfl := hr
  case inl =>
    rw [lowByte_eq_setWidth, BitVec.setWidth_ushiftRight_eq_extractLsb]
    exact store_of_atPage hs _
  all_goals exact store_of_atPage hs _

end Sys2Proof.Machine
end

section
/-! PROOFS. O30 to O36, O50, O51: commands sent, and accesses that are logged instead. An ICR write stores the command
and then sends it, logs it, or both (43_registers_icr_to_selfipi.md R262 to R267); the command's fields are the
statements' `commandFields`, and the stored ICR is read by nothing that sends or logs. -/

namespace Sys2Proof.Machine

open Sys2Proof.Statements

/-! ### The fields of a command -/

theorem icrCommand_eq (val : W64) : icrCommand val = commandFields ((val >>> 32).setWidth 32) (val.setWidth 32) := by
  rw [icrCommand, highHalf_eq_shift, lowHalf_eq_setWidth]
  rfl

theorem icrCommand_del (val : W64) : (icrCommand val).del = val.extractLsb' 8 3 :=
  BitVec.extractLsb'_extractLsb'_of_le (by decide)

theorem icrCommand_vec (val : W64) : (icrCommand val).vec = val.extractLsb' 0 8 :=
  BitVec.extractLsb'_extractLsb'_of_le (by decide)

/-- The self command of R301: shorthand self, edge, assert, fixed. -/
theorem selfCommand_eq (vec : Byte) : selfCommand vec = commandFields 0#32 (0x00044000#32 ||| vec.setWidth 32) := by
  revert vec
  decide

theorem icrCommandXapic_eq (val : W32) (u : Apic) :
    icrCommandXapic val u = commandFields ((u.icr >>> 56).setWidth 32) (val &&& ~~~u.hw.rsvd.icr) := by
  have hdest : (u.icr.extractLsb' 56 8).setWidth 32 = (u.icr >>> 56).setWidth 32 := by
    have := u.icr.isLt
    apply BitVec.eq_of_toNat_eq
    rw [BitVec.toNat_setWidth, BitVec.toNat_setWidth, BitVec.extractLsb'_toNat, BitVec.toNat_ushiftRight,
      Nat.shiftRight_eq_div_pow]
    omega
  rw [icrCommandXapic, hdest]
  rfl

theorem delReserved_iff {del : BitVec 3} : delReserved del = true ↔ del = 3#3 ∨ del = 7#3 := by
  rw [delReserved, Bool.or_eq_true, beq_iff_eq, beq_iff_eq]

theorem delReserved_of_sendable {c : Command} (h : sendable c) : delReserved c.del = false := by
  rw [Bool.eq_false_iff, ne_eq, delReserved_iff, not_or]
  exact ⟨h.2.1, h.2.2.1⟩

/-! ### Sending -/

theorem sendCommand_of_legal {c : Command} (h : c.del = 0#3 → 16 ≤ c.vec.toNat) (s : State) :
    sendCommand c s = sending c s := by
  refine if_neg ?_
  rintro ⟨hfixed, hlow⟩
  exact Nat.not_lt.2 (h hfixed) hlow

theorem sendCommand_of_illegal {c : Command} (hfixed : c.del = 0#3) (hlow : c.vec.toNat < 16) (s : State) :
    sendCommand c s = drawing 1 (logError 5 s) ∨ sendCommand c s = sending c (drawing 1 (logError 5 s)) := by
  rw [sendCommand, if_pos ⟨hfixed, hlow⟩]
  exact sendIllegalVector_cases c s

/-- The acting unit with another ICR. -/
def storingIcr (val : W64) (s : State) : State := withSelf { s.self with icr := val } s

theorem sending_storingIcr (c : Command) (val : W64) (s : State) :
    sending c (storingIcr val s) = storingIcr val (sending c s) := by
  have htargets : targets c (storingIcr val s) = targets c s := targets_congr rfl rfl rfl rfl rfl rfl
  rw [sending, htargets]
  rfl

/-! ### The writes of the ICR -/

theorem writeIcr_of_not_lowest {val : W64} (h : (icrCommand val).del ≠ 1#3) (s : State) :
    writeIcr val s = sendCommand (icrCommand val) (storingIcr val s) :=
  if_neg (show ¬(icrCommand val).del = delLowest from h)

theorem writeIcr_of_lowest {val : W64} (h : (icrCommand val).del = 1#3) (s : State) :
    writeIcr val s = logError 4 (storingIcr val s) :=
  if_pos (show (icrCommand val).del = delLowest from h)

theorem exec_wrmsrIcr_of_hears {s : State} {val : W64} (hs : hears s)
    (hmask : val.setWidth 32 &&& s.self.hw.rsvd.icr = 0#32) :
    exec (.wrmsrIcr val) s = if delReserved (icrCommand val).del then .refused .reservedDeliveryMode
      else .next (finished (writeIcr val s)) := by
  have hclean := and_rsvdIcr_eq_zero_iff.2 hmask
  change execWrmsrIcr val s = _
  rw [execWrmsrIcr, wrmsr_of_hears hs hclean, msrOpen_of_hears hs, hclean, beq_self_eq_true, Bool.true_and,
    Bool.true_and]

theorem exec_wrmsrIcr_of_sent {s : State} {val : W64} (hs : hears s)
    (hmask : val.setWidth 32 &&& s.self.hw.rsvd.icr = 0#32) (hdel : delReserved (icrCommand val).del = false) :
    exec (.wrmsrIcr val) s = .next (finished (writeIcr val s)) := by
  rw [exec_wrmsrIcr_of_hears hs hmask, hdel]
  rfl

theorem exec_storeIcrLo_of_atPage {s : State} {page : PageNo} (hs : atPage page s) (val : W32) :
    exec (.storeIcrLo page val) s = if delReserved (icrCommandXapic val s.self).del then .refused .reservedDeliveryMode
      else .next (finished (writeIcrLow val s)) := by
  obtain ⟨hmode, hpage⟩ := hs
  change execStoreIcrLo page val s = _
  rw [execStoreIcrLo, store_of_atPage ⟨hmode, hpage⟩]
  simp only [hmode, ← hpage, true_and]

theorem exec_storeIcrLo_of_sent {s : State} {page : PageNo} (hs : atPage page s) {val : W32}
    (hdel : delReserved (icrCommandXapic val s.self).del = false) :
    exec (.storeIcrLo page val) s = .next (finished (writeIcrLow val s)) := by
  rw [exec_storeIcrLo_of_atPage hs, hdel]
  rfl

/-- Settles O30: the command is stored and sent, and its targets do not depend on the stored ICR. -/
theorem icrWriteSends : Obligations.IcrWriteSends := by
  intro s val hs hmask hsendable
  rw [← icrCommand_eq] at hsendable ⊢
  obtain ⟨hlowest, -, -, hlegal⟩ := id hsendable
  rw [exec_wrmsrIcr_of_sent hs hmask (delReserved_of_sendable hsendable), writeIcr_of_not_lowest hlowest,
    sendCommand_of_legal hlegal, sending_storingIcr]
  rfl

/-- Settles O32: a lowest-priority write is stored and logged. -/
theorem lowestPriorityIsLoggedNotSent : Obligations.LowestPriorityIsLoggedNotSent := by
  intro s val hs hmask hdel
  rw [← icrCommand_del] at hdel
  refine ⟨_, logError_logsError 4 (storingIcr val s), ?_⟩
  rw [exec_wrmsrIcr_of_sent hs hmask (by rw [hdel]; rfl), writeIcr_of_lowest hdel]

theorem exec_wrmsrSelfIpi {s : State} {val : W64} (hs : hears s)
    (hmask : val &&& wordMask s.self.hw.rsvd.selfIpi = 0#64) :
    exec (.wrmsrSelfIpi val) s = .next (finished (sendCommand (selfCommand (val.extractLsb' 0 8)) s)) :=
  wrmsr_of_hears hs hmask _

/-- A small value is the data word of its low byte. -/
theorem eq_setWidth_low {val : W64} (h : val.toNat < 256) : val = (val.extractLsb' 0 8).setWidth 64 := by
  apply BitVec.eq_of_toNat_eq
  rw [BitVec.toNat_setWidth_of_le (by decide), BitVec.extractLsb'_toNat, Nat.shiftRight_zero, Nat.mod_eq_of_lt h]

theorem setWidth_and_wordMask {vec : Byte} {mask : W32} (h : vec.setWidth 32 &&& mask = 0#32) :
    (vec.setWidth 64 : W64) &&& wordMask mask = 0#64 := by
  rw [← zext64_setWidth, and_wordMask_eq_zero_iff, zext64_eq_append, highHalf_append, lowHalf_append]
  exact ⟨rfl, h⟩

theorem low_setWidth (vec : Byte) : (vec.setWidth 64 : W64).extractLsb' 0 8 = vec := by
  rw [← BitVec.setWidth_eq_extractLsb' (by decide), BitVec.setWidth_setWidth_of_le _ (by decide), BitVec.setWidth_eq]

theorem setWidth_low (vec : Byte) : (vec.setWidth 64 : W64).setWidth 32 = vec.setWidth 32 :=
  BitVec.setWidth_setWidth_of_le _ (by decide)

theorem exec_wrmsrSelfIpi_byte {s : State} {vec : Byte} (hs : hears s)
    (hmask : vec.setWidth 32 &&& s.self.hw.rsvd.selfIpi = 0#32) :
    exec (.wrmsrSelfIpi (vec.setWidth 64)) s = .next (finished (sendCommand (selfCommand vec) s)) := by
  rw [exec_wrmsrSelfIpi hs (setWidth_and_wordMask hmask), low_setWidth]

/-- Settles O33: both writes are `sendCommand` of a fixed command with an illegal vector. -/
theorem illegalVectorSendIsLogged : Obligations.IllegalVectorSendIsLogged := by
  intro s val hs
  refine ⟨fun hmask hdel hvec => ⟨_, logError_logsError 5 (storingIcr val s), ?_⟩, fun hvec hmask =>
    ⟨_, logError_logsError 5 s, ?_⟩⟩
  · rw [← icrCommand_del] at hdel
    rw [← icrCommand_vec] at hvec
    rw [exec_wrmsrIcr_of_sent hs hmask (by rw [hdel]; rfl), writeIcr_of_not_lowest (by rw [hdel]; decide),
      ← icrCommand_eq]
    rcases sendCommand_of_illegal hdel hvec (storingIcr val s) with h | h <;> rw [h]
    · exact .inl rfl
    · exact .inr rfl
  · obtain ⟨vec, rfl⟩ : ∃ vec : Byte, val = vec.setWidth 64 := ⟨_, eq_setWidth_low (by omega)⟩
    rw [setWidth_low] at hmask ⊢
    have hlow : (selfCommand vec).vec.toNat < 16 := by rwa [BitVec.toNat_setWidth_of_le (by decide)] at hvec
    rw [exec_wrmsrSelfIpi_byte hs hmask, ← selfCommand_eq]
    rcases sendCommand_of_illegal rfl hlow s with h | h <;> rw [h]
    · exact .inl rfl
    · exact .inr rfl

/-- Settles O34: both writes stop at the delivery mode once their other checks pass. -/
theorem reservedDeliveryModesAreRefused : Obligations.ReservedDeliveryModesAreRefused := by
  intro s
  refine ⟨fun val hs hmask hdel => ?_, fun page val hs hdel => ?_⟩
  · rw [exec_wrmsrIcr_of_hears hs hmask, icrCommand_del, if_pos (delReserved_iff.2 hdel)]
  · rw [exec_storeIcrLo_of_atPage hs, icrCommandXapic_eq]
    exact if_pos (delReserved_iff.2 hdel)

/-! ### The targets of a command (43_registers_icr_to_selfipi.md R263, R264) -/

/-- Where what the free values decide is settled by `p`, the targets among the other units are a filter. -/
theorem otherTargets_eq_filter {c : Command} {sender : Apic} {p : Apic → Bool} {us : List Apic}
    (h : ∀ u ∈ us, ∀ free, isTarget free c sender false u = p u) (n : Nat) :
    otherTargets n c sender us = (us.filter p).map Apic.x2apicId := by
  induction us generalizing n with
  | nil => rfl
  | cons u us ih =>
    obtain ⟨hu, hus⟩ := List.forall_mem_cons.1 h
    rw [otherTargets, hu, ih hus, List.filter_cons]
    cases p u <;> rfl

theorem targets_eq_filter {c : Command} {s : State} {p : Apic → Bool}
    (hself : ∀ free, isTarget free c s.self true s.self = p s.self)
    (hothers : ∀ u ∈ s.others, ∀ free, isTarget free c s.self false u = p u) :
    targets c s = ((s.self :: s.others).filter p).map Apic.x2apicId := by
  rw [targets, hself, otherTargets_eq_filter hothers, List.filter_cons]
  cases p s.self <;> rfl

theorem isTarget_self {c : Command} (h : c.sh = 1#2) (free isSelf : Bool) (sender u : Apic) :
    isTarget free c sender isSelf u = isSelf := if_pos h

theorem isTarget_shorthand {c : Command} {sender u : Apic} (hmode : u.mode = sender.mode) (free isSelf : Bool) :
    (c.sh = 2#2 → isTarget free c sender isSelf u = true)
      ∧ (c.sh = 3#2 → isTarget free c sender isSelf u = !isSelf) := by
  refine ⟨fun h => ?_, fun h => ?_⟩
  · rw [isTarget, h, if_neg (by decide), if_neg (not_not.2 hmode), if_pos rfl]
  · rw [isTarget, h, if_neg (by decide), if_neg (not_not.2 hmode), if_neg (by decide), if_pos rfl]

theorem isTarget_x2apic {c : Command} {sender u : Apic} (h : c.sh = 0#2) (hsender : sender.mode = .x2apic)
    (hu : u.mode = .x2apic) (free isSelf : Bool) : isTarget free c sender isSelf u = matchesX2apic c u := by
  rw [isTarget, h, if_neg (by decide), hsender, hu, if_neg (not_not.2 rfl), if_neg (by decide), if_neg (by decide),
    if_pos rfl]

theorem matchesX2apic_broadcast {c : Command} (h : c.dest = 0xFFFFFFFF#32) (u : Apic) : matchesX2apic c u = true := by
  rw [matchesX2apic, h, beq_self_eq_true, Bool.true_or]

theorem matchesX2apic_physical {c : Command} (hdest : c.dest ≠ 0xFFFFFFFF#32) (hmode : c.dmode = false) (u : Apic) :
    matchesX2apic c u = (u.x2apicId == c.dest) := by
  rw [matchesX2apic, beq_false_of_ne hdest, hmode]
  rfl

theorem cluster_eq_iff {a b : W32} : a.extractLsb' 16 16 = b.extractLsb' 16 16 ↔ a >>> 16 = b >>> 16 := by
  have ha := a.isLt
  have hb := b.isLt
  rw [← BitVec.toNat_inj, ← BitVec.toNat_inj, toNat_field, toNat_field, BitVec.toNat_ushiftRight,
    BitVec.toNat_ushiftRight, Nat.shiftRight_eq_div_pow, Nat.shiftRight_eq_div_pow]
  omega

theorem logical_eq_zero_iff {a b : W32} :
    a.extractLsb' 0 16 &&& b.extractLsb' 0 16 = 0#16 ↔ a &&& b &&& 0x0000FFFF#32 = 0#32 := by
  change _ ↔ a &&& b &&& lowMask 32 16 = 0#32
  rw [← BitVec.extractLsb'_and, ← BitVec.toNat_inj, ← BitVec.toNat_inj, toNat_and_lowMask (by decide),
    BitVec.extractLsb'_toNat, Nat.shiftRight_zero]
  rfl

theorem matchesX2apic_logical {c : Command} (hdest : c.dest ≠ 0xFFFFFFFF#32) (hmode : c.dmode = true) (u : Apic) :
    matchesX2apic c u = ((u.ldr >>> 16) == (c.dest >>> 16) && (u.ldr &&& c.dest &&& 0x0000FFFF#32) != 0#32) := by
  rw [matchesX2apic, beq_false_of_ne hdest, hmode, Bool.false_or, if_pos rfl, Bool.eq_iff_iff]
  simp only [Bool.and_eq_true, beq_iff_eq, bne_iff_ne, ne_eq, cluster_eq_iff, logical_eq_zero_iff]

/-- Settles O31: each case is `isTarget` without its free value. -/
theorem targetsOfACommand : Obligations.TargetsOfACommand := by
  intro c s hself hothers
  have hmatch : c.sh = 0#2 → ∀ p, (∀ u, matchesX2apic c u = p u) →
      targets c s = ((s.self :: s.others).filter p).map Apic.x2apicId := fun hsh p hp =>
    targets_eq_filter (fun free => (isTarget_x2apic hsh hself hself free true).trans (hp _))
      fun u hu free => (isTarget_x2apic hsh hself (hothers u hu) free false).trans (hp u)
  have hsame : ∀ u ∈ s.others, u.mode = s.self.mode := fun u hu => (hothers u hu).trans hself.symm
  refine ⟨fun hsh => ?_, fun hsh => ?_, fun hsh => ?_, fun hsh hdest => ?_, fun hsh hdest hmode => ?_,
    fun hsh hdest hmode => ?_⟩
  · rw [targets, isTarget_self hsh,
      otherTargets_eq_filter (p := fun _ => false) fun u _ free => isTarget_self hsh _ _ _ u,
      List.filter_false]
    rfl
  · rw [targets_eq_filter (p := fun _ => true) (fun free => (isTarget_shorthand rfl free true).1 hsh)
      fun u hu free => (isTarget_shorthand (hsame u hu) free false).1 hsh, List.filter_true]
  · rw [targets, (isTarget_shorthand rfl _ true).2 hsh, otherTargets_eq_filter (p := fun _ => true)
      fun u hu free => (isTarget_shorthand (hsame u hu) free false).2 hsh, List.filter_true]
    rfl
  · rw [hmatch hsh (fun _ => true) (matchesX2apic_broadcast hdest), List.filter_true]
  · exact hmatch hsh _ (matchesX2apic_physical hdest hmode)
  · exact hmatch hsh _ (matchesX2apic_logical hdest hmode)

theorem targets_selfCommand (vec : Byte) (s : State) : targets (selfCommand vec) s = [s.self.x2apicId] := by
  rw [targets, isTarget_self rfl,
    otherTargets_eq_filter (p := fun _ => false) fun u _ free => isTarget_self rfl _ _ _ u,
    List.filter_false]
  rfl

/-- Settles O35: the self command has the sender as its one target. -/
theorem selfIpiWriteSendsToItself : Obligations.SelfIpiWriteSendsToItself := by
  intro s vec hs hlegal hmask
  rw [exec_wrmsrSelfIpi_byte hs hmask, sendCommand_of_legal fun _ => hlegal, sending, targets_selfCommand]
  rfl

/-! ### Nothing that sends or logs reads the ICR -/

theorem accept_storingIcr (o : Origin) (vec : Byte) (level : Bool) (val : W64) (s : State) :
    accept o vec level (storingIcr val s) = storingIcr val (accept o vec level s) := by
  by_cases h : (s.self.base.en && s.self.svr.getLsbD 8) = true
  · obtain ⟨hen, hsvr⟩ := Bool.and_eq_true _ _ ▸ h
    rw [accept_of_enabled hen hsvr, accept_of_enabled (s := storingIcr val s) hen hsvr]
    cases o with
    | sent => rfl
    | held => rfl
    | source x => cases x <;> rfl
  · have hoff := Bool.eq_false_iff.2 h
    rw [accept_of_disabled hoff, accept_of_disabled (s := storingIcr val s) hoff]
    unfold notAccepted
    change (if s.freeBool then _ else _) = _
    split <;> rfl

theorem errorInterrupt_storingIcr (val : W64) (s : State) :
    errorInterrupt (storingIcr val s) = storingIcr val (errorInterrupt s) := by
  unfold errorInterrupt
  dsimp only
  change (if (lvtVector s.self.lvtError.reg).toNat < 16 then _ else _) = _
  split
  · rfl
  · exact accept_storingIcr _ _ _ val s

theorem logError_storingIcr (b : Nat) (val : W64) (s : State) :
    logError b (storingIcr val s) = storingIcr val (logError b s) := by
  unfold logError
  dsimp only
  change (if lvtMasked s.self.lvtError.reg then _ else if s.self.esrPending = 0#32 then _
    else if (setErrorBit b s).freeBool then _ else _) = _
  split
  · rfl
  split
  · exact errorInterrupt_storingIcr val (setErrorBit b s)
  split
  · exact errorInterrupt_storingIcr val ((setErrorBit b s).drew 1)
  · rfl

theorem sendCommand_storingIcr (c : Command) (val : W64) (s : State) :
    sendCommand c (storingIcr val s) = storingIcr val (sendCommand c s) := by
  unfold sendCommand sendIllegalVector
  split
  · dsimp only
    rw [logError_storingIcr]
    change (if (logError 5 s).freeBool then _ else _) = _
    split
    · exact sending_storingIcr c val ((logError 5 s).drew 1)
    · rfl
  · exact sending_storingIcr c val s

theorem icrCommand_self (vec : Byte) : icrCommand (0x0000000000044000#64 ||| vec.setWidth 64) = selfCommand vec := by
  revert vec
  decide

/-- Settles O36: the two commands are one, and storing it changes nothing of what sending it does. -/
theorem selfIpiIsTheIcrSelfSend : Obligations.SelfIpiIsTheIcrSelfSend := by
  intro s vec hs hself hicr
  have hlow : (0x0000000000044000#64 ||| vec.setWidth 64 : W64).setWidth 32 = 0x00044000#32 ||| vec.setWidth 32 := by
    rw [BitVec.setWidth_or, setWidth_low]
    rfl
  have hfixed : (selfCommand vec).del ≠ 1#3 := (by decide : (0#3 : BitVec 3) ≠ 1#3)
  refine ⟨_, _, exec_wrmsrSelfIpi_byte hs hself, ?_, (sendCommand_kept _ s).icr, rfl⟩
  rw [exec_wrmsrIcr_of_sent hs (by rw [hlow, hicr]) (by rw [icrCommand_self]; rfl),
    writeIcr_of_not_lowest (by rwa [icrCommand_self]), icrCommand_self, sendCommand_storingIcr]
  rfl

/-! ### STORE of the ICR's low half -/

/-- The state in which a STORE of the ICR's low half has stored its bits. -/
def storedIcrLow (val : W32) (s : State) : State :=
  withSelf { s.self with icr := (s.self.icr >>> 32).setWidth 32 ++ (val &&& ~~~s.self.hw.rsvd.icr) } s

theorem writeIcrLow_of_not_lowest {val : W32} {s : State} (h : (icrCommandXapic val s.self).del ≠ 1#3) :
    writeIcrLow val s = sendCommand (icrCommandXapic val s.self) (storedIcrLow val s) := by
  rw [storedIcrLow, ← highHalf_eq_shift]
  exact if_neg (show ¬(icrCommandXapic val s.self).del = delLowest from h)

theorem writeIcrLow_of_lowest {val : W32} {s : State} (h : (icrCommandXapic val s.self).del = 1#3) :
    writeIcrLow val s = sending (icrCommandXapic val s.self) (drawing 1 (storedIcrLow val s))
      ∨ writeIcrLow val s = logError 4 (drawing 1 (storedIcrLow val s)) := by
  rw [storedIcrLow, ← highHalf_eq_shift, writeIcrLow]
  dsimp only
  rw [if_pos (show (icrCommandXapic val s.self).del = delLowest from h)]
  split
  · exact .inl rfl
  · exact .inr rfl

/-- Settles O51: the three clauses are the three ways of the write rule. -/
theorem storeToIcrLowSends : Obligations.StoreToIcrLowSends := by
  intro s page val hs low c stored
  have hc : icrCommandXapic val s.self = c := icrCommandXapic_eq val s.self
  have hexec : delReserved c.del = false → exec (.storeIcrLo page val) s = .next (finished (writeIcrLow val s)) :=
    fun hdel => exec_storeIcrLo_of_sent hs (hc ▸ hdel)
  refine ⟨fun hsendable => ?_, fun hdel => ?_, fun hdel hvec => ⟨_, logError_logsError 5 stored, ?_⟩⟩
  · obtain ⟨hlowest, -, -, hlegal⟩ := id hsendable
    rw [hexec (delReserved_of_sendable hsendable), writeIcrLow_of_not_lowest (hc ▸ hlowest), hc,
      sendCommand_of_legal hlegal]
    rfl
  · rw [hexec (by rw [hdel]; rfl)]
    rcases writeIcrLow_of_lowest (val := val) (s := s) (hc ▸ hdel) with h | h <;> rw [h]
    · rw [hc]
      exact .inl rfl
    · exact .inr ⟨_, logError_logsError 4 _, rfl⟩
  · rw [hexec (by rw [hdel]; rfl), writeIcrLow_of_not_lowest (by rw [hc, hdel]; decide), hc]
    rcases sendCommand_of_illegal hdel hvec (storedIcrLow val s) with h | h <;> rw [h]
    · exact .inl rfl
    · exact .inr rfl

/-! ### Illegal MMIO accesses -/

theorem exec_illegalLoad {s : State} {page : PageNo} (hs : atPage page s) :
    ∃ t v, logsError 7 s t ∧ mmio page illegalLoad s = .next (withAnswer (.data v) (drawing 1 t)) :=
  ⟨_, _, logError_logsError 7 s, mmio_of_atPage hs illegalLoad⟩

theorem exec_illegalStore {s : State} {page : PageNo} (hs : atPage page s) :
    ∃ t, logsError 7 s t ∧ illegalStore page s = .next (finished t) :=
  ⟨_, logError_logsError 7 s, store_of_atPage hs _⟩

/-- Settles O50: an open LOAD is `answerFree`, an illegal access logs error 7 first. -/
theorem openAndIllegalMmioAccesses : Obligations.OpenAndIllegalMmioAccesses := by
  intro s page k slot val hs
  refine ⟨⟨_, mmio_of_atPage hs answerFree⟩, ⟨_, mmio_of_atPage hs answerFree⟩, exec_illegalLoad hs, fun i hi => ?_,
    fun _ hcmci => ?_⟩
  · simp only [illegalStores, List.mem_cons, List.not_mem_nil, or_false] at hi
    obtain rfl | rfl | rfl | rfl | rfl | rfl | rfl | rfl := hi <;> exact exec_illegalStore hs
  · have hnone : ¬(slot = 0x2F#8 ∧ s.self.hw.hasLvtCmci = true) := by
      rintro ⟨hslot, hhas⟩
      rcases hcmci with hne | hno
      · exact hne hslot
      · rw [hno] at hhas
        cases hhas
    have hload : exec (.loadReserved page slot) s = mmio page illegalLoad s := if_neg hnone
    have hstore : exec (.storeReserved page slot val) s = illegalStore page s := if_neg hnone
    rw [hload, hstore]
    exact ⟨exec_illegalLoad hs, exec_illegalStore hs⟩

end Sys2Proof.Machine
end

section
/-! PROOFS. O39 to O44: the write of IA32_APIC_BASE (40_enable_and_mode.md R142 to R150). Its tests are put into the
words of the statements, reserved bits as `cleanBase` and transitions by EN and EXTD; then a write is GP(0), a
refusal, or `writeBase`, and `writeBase` is the transition's register effects. -/

namespace Sys2Proof.Machine

open Sys2Proof.Statements

/-! ### The reserved bits (R148) -/

theorem getLsbD_lowMask (w k i : Nat) : (lowMask w k).getLsbD i = (decide (i < w) && decide (i < k)) := by
  rw [lowMask, BitVec.getLsbD_ofNat, Nat.testBit_two_pow_sub_one]

theorem and_not_lowMask_eq_zero_iff {w k : Nat} {v : BitVec w} : v &&& ~~~(lowMask w k) = 0#w ↔ v.toNat < 2 ^ k := by
  refine ⟨fun h => Nat.lt_pow_two_of_testBit _ fun i hi => ?_, fun h => BitVec.eq_of_getLsbD_eq fun i hi => ?_⟩
  · change v.getLsbD i = false
    by_cases hw : i < w
    · have hbit : (v &&& ~~~(lowMask w k)).getLsbD i = (0#w).getLsbD i := by rw [h]
      rw [BitVec.getLsbD_and, BitVec.getLsbD_not, getLsbD_lowMask, BitVec.getLsbD_zero] at hbit
      have hout : ¬i < k := by omega
      simpa only [hw, hout, decide_true, decide_false, Bool.true_and, Bool.and_false, Bool.not_false,
        Bool.and_true] using hbit
    · exact BitVec.getLsbD_of_ge v i (by omega)
  · rw [BitVec.getLsbD_and, BitVec.getLsbD_not, getLsbD_lowMask, BitVec.getLsbD_zero]
    by_cases hk : i < k
    · simp [hi, hk]
    · have hbit : v.getLsbD i = false :=
        Nat.testBit_lt_two_pow (Nat.lt_of_lt_of_le h (Nat.pow_le_pow_right (by decide) (by omega)))
      rw [hbit, Bool.false_and]

theorem and_low_byte_eq_zero_iff {val : W64} : val &&& 0xFF#64 = 0#64 ↔ val.extractLsb' 0 8 = 0#8 := by
  change val &&& lowMask 64 8 = 0#64 ↔ _
  rw [← BitVec.toNat_inj, ← BitVec.toNat_inj, toNat_and_lowMask (by decide), BitVec.extractLsb'_toNat,
    Nat.shiftRight_zero]
  rfl

theorem and_bit_nine_eq_zero_iff {val : W64} : val &&& 0x200#64 = 0#64 ↔ val.getLsbD 9 = false := by
  change val &&& BitVec.twoPow 64 9 = 0#64 ↔ _
  rw [BitVec.and_twoPow]
  cases val.getLsbD 9
  · exact ⟨fun _ => rfl, fun _ => rfl⟩
  · exact ⟨fun h => absurd h (by decide), fun h => (nomatch h)⟩

theorem and_rsvdApicBase_eq_zero_iff {val : W64} {p : Params} :
    val &&& rsvdApicBase p = 0#64
      ↔ val.extractLsb' 0 8 = 0#8 ∧ val.getLsbD 9 = false ∧ val.toNat < 2 ^ p.maxPhyAddr := by
  rw [rsvdApicBase, show (0x2FF#64 : W64) = 0xFF#64 ||| 0x200#64 from rfl, and_or_eq_zero_iff, and_or_eq_zero_iff,
    and_not_lowMask_eq_zero_iff, and_low_byte_eq_zero_iff, and_bit_nine_eq_zero_iff]
  tauto

/-! ### The tests of R142 -/

theorem modeOf_injective {en extd en' extd' : Bool} : modeOf en extd = modeOf en' extd' ↔ en = en' ∧ extd = extd' := by
  cases en <;> cases extd <;> cases en' <;> cases extd' <;> decide

theorem interruptsOutstanding_eq_false_iff {s : State} : interruptsOutstanding s = false ↔ quiet s := by
  simp only [interruptsOutstanding, quiet, Bool.or_eq_false_iff, bne_eq_false_iff_eq, List.any_eq_false, beq_iff_eq,
    and_assoc]

/-- GP(0) by the transition (R143, R145, R146) or by missing support (R147), from the fields. -/
theorem baseWriteFaults_iff {val : W64} {u : Apic} :
    baseWriteFaults val u = true ↔
      (val.getLsbD 10 = true ∧ u.hw.x2apicSupported = false)
        ∨ (val.getLsbD 11 = false ∧ val.getLsbD 10 = true)
        ∨ (u.mode = .x2apic ∧ val.getLsbD 11 = true ∧ val.getLsbD 10 = false)
        ∨ (u.mode = .disabled ∧ val.getLsbD 11 = true ∧ val.getLsbD 10 = true) := by
  have hx2apic : ∀ en extd, modeOf en extd = .x2apic ↔ en = true ∧ extd = true := by decide
  have hxapic : ∀ en extd, modeOf en extd = .xapic ↔ en = true ∧ extd = false := by decide
  simp only [baseWriteFaults, transitionFaults, Bool.or_eq_true, Bool.and_eq_true, Bool.not_eq_true', beq_iff_eq,
    modeOf_eq_invalid_iff, hx2apic, hxapic, or_assoc]

theorem execWrmsrIa32ApicBase_of_gp {s : State} {val : W64}
    (h : s.self.core.cpl ≠ 0#2 ∨ val &&& rsvdApicBase s.self.hw ≠ 0#64
      ∨ (val.getLsbD 8 = s.self.base.bsp ∧ baseWriteFaults val s.self = true)) :
    execWrmsrIa32ApicBase val s = .next (gp s) := by
  unfold execWrmsrIa32ApicBase
  split
  case isTrue => rfl
  case isFalse hcpl =>
  split
  case isTrue => rfl
  case isFalse hclean =>
  split
  case isTrue => rfl
  case isFalse hvalid =>
  obtain ⟨hbsp, hfaults⟩ := (h.resolve_left hcpl).resolve_left hclean
  rw [if_neg (not_not.2 hbsp), if_pos hfaults]
  rfl

/-- The tests in front of the BSP test pass. -/
theorem execWrmsrIa32ApicBase_of_clean {s : State} {val : W64} (h : cleanBase val s)
    (hvalid : invalidCombination val = false) :
    execWrmsrIa32ApicBase val s =
      if val.getLsbD 8 ≠ s.self.base.bsp then .refused .bspFlagChange
      else if baseWriteFaults val s.self then .next (raiseGP s)
      else if modeOf (val.getLsbD 11) (val.getLsbD 10) ≠ s.self.mode ∧ interruptsOutstanding s = true then
        .refused .pendingAtModeChange
      else .next ((writeBase val s).answered .done) := by
  obtain ⟨hcpl, hbits⟩ := h
  rw [execWrmsrIa32ApicBase, if_neg (not_not.2 hcpl), if_neg (not_not.2 (and_rsvdApicBase_eq_zero_iff.2 hbits)), hvalid,
    if_neg Bool.false_ne_true]

theorem invalidCombination_of_legal {val : W64} (h : val.getLsbD 10 = true → val.getLsbD 11 = true) :
    invalidCombination val = false := by
  rw [Bool.eq_false_iff, ne_eq, invalidCombination_iff]
  rintro ⟨hen, hextd⟩
  rw [h hextd] at hen
  cases hen

/-- A write that passes every test stores the fields and performs the transition. -/
theorem execWrmsrIa32ApicBase_of_legal {s : State} {val : W64} (h : admittedBase val s)
    (hlegal : baseWriteFaults val s.self = false)
    (hquiet : modeOf (val.getLsbD 11) (val.getLsbD 10) = s.self.mode ∨ quiet s) :
    execWrmsrIa32ApicBase val s = .next (finished (writeBase val s)) := by
  obtain ⟨hclean, hbsp, -⟩ := h
  have hvalid : invalidCombination val = false := by
    rw [Bool.eq_false_iff, ne_eq, invalidCombination_iff]
    exact fun hinvalid => Bool.eq_false_iff.1 hlegal (baseWriteFaults_iff.2 (.inr (.inl hinvalid)))
  rw [execWrmsrIa32ApicBase_of_clean hclean hvalid, if_neg (not_not.2 hbsp), hlegal, if_neg Bool.false_ne_true, if_neg]
  · rfl
  · rintro ⟨hchange, houtstanding⟩
    rcases hquiet with hsame | hquiet
    · exact hchange hsame
    · rw [interruptsOutstanding_eq_false_iff.2 hquiet] at houtstanding
      cases houtstanding

/-- Settles O39: each case is one of the three ways to GP(0). -/
theorem illegalBaseWritesRaiseGp : Obligations.IllegalBaseWritesRaiseGp := by
  intro s val
  refine ⟨fun hreserved => execWrmsrIa32ApicBase_of_gp (.inr (.inl ?_)), fun hbsp hfault =>
    execWrmsrIa32ApicBase_of_gp (.inr (.inr ⟨hbsp, baseWriteFaults_iff.2 ?_⟩))⟩
  · rw [ne_eq, and_rsvdApicBase_eq_zero_iff]
    rintro ⟨hlow, hnine, hfits⟩
    rcases hreserved with h | h | h
    · exact h hlow
    · rw [hnine] at h
      cases h
    · omega
  · exact hfault.imp_right .inr

theorem not_baseWriteFaults_of_legal {s : State} {val : W64} (h : legalTransition val s) :
    baseWriteFaults val s.self = false := by
  obtain ⟨hextd, hx2apic, hdisabled⟩ := h
  rw [Bool.eq_false_iff, ne_eq, baseWriteFaults_iff]
  rintro (⟨h10, hsupport⟩ | ⟨h11, h10⟩ | ⟨hmode, h11, h10⟩ | ⟨hmode, h11, h10⟩)
  · rw [(hextd h10).2] at hsupport
    cases hsupport
  · rw [(hextd h10).1] at h11
    cases h11
  · rw [hx2apic hmode h11] at h10
    cases h10
  · rw [hdisabled hmode h11] at h10
    cases h10

/-- Settles O40: the BSP test is the first one that is left, the test for outstanding interrupts the last. -/
theorem refusedBaseWrites : Obligations.RefusedBaseWrites := by
  intro s val hclean
  refine ⟨fun hbsp hvalid => ?_, fun hbsp hlegal hpending hchange => ?_⟩
  · exact (execWrmsrIa32ApicBase_of_clean hclean (invalidCombination_of_legal hvalid)).trans (if_pos hbsp)
  · have hmode : modeOf (val.getLsbD 11) (val.getLsbD 10) ≠ s.self.mode := by
      rw [Apic.mode, ne_eq, modeOf_injective]
      rintro ⟨hen, hextd⟩
      exact hchange.elim (· hen) (· hextd)
    have houtstanding : interruptsOutstanding s = true := by
      rw [← Bool.not_eq_false]
      exact fun h => hpending (interruptsOutstanding_eq_false_iff.1 h)
    change execWrmsrIa32ApicBase val s = _
    rw [execWrmsrIa32ApicBase_of_clean hclean (invalidCombination_of_legal fun h10 => (hlegal.1 h10).1),
      if_neg (not_not.2 hbsp), not_baseWriteFaults_of_legal hlegal, if_neg Bool.false_ne_true,
      if_pos ⟨hmode, houtstanding⟩]

/-! ### The transitions -/

theorem page_eq_shift (val : W64) : val.extractLsb' 12 52 = (val >>> 12).setWidth 52 :=
  BitVec.setWidth_ushiftRight_eq_extractLsb.symm

/-- The fields that a write stores, with EN and EXTD as they are named. -/
theorem storeBase_eq {val : W64} {en extd : Bool} (hen : val.getLsbD 11 = en) (hextd : val.getLsbD 10 = extd)
    (u : Apic) :
    storeBase val u = { u with base := { u.base with page := (val >>> 12).setWidth 52, en := en, extd := extd } } := by
  rw [storeBase, hen, hextd, page_eq_shift]

theorem transition_same (mode : Mode) (s : State) : transition mode mode s = s := by
  cases mode <;> rfl

/-- Settles O41: the mode is the same, so that no register but the page is touched. -/
theorem baseWriteThatKeepsTheMode : Obligations.BaseWriteThatKeepsTheMode := by
  intro s val hval hmode hen hextd
  have hsame : modeOf (val.getLsbD 11) (val.getLsbD 10) = s.self.mode := by rw [hen, hextd]; rfl
  have hlegal : legalTransition val s := by
    refine ⟨fun h10 => ⟨?_, hval.2.2 h10⟩, fun hx2apic _ => ?_, fun hdisabled h11 => ?_⟩
    · by_contra h11
      exact hmode (hsame ▸ modeOf_eq_invalid_iff.2 ⟨Bool.eq_false_iff.2 h11, h10⟩)
    · rw [← hsame] at hx2apic
      exact (modeOf_injective (en' := true) (extd' := true).1 hx2apic).2
    · rw [← hsame] at hdisabled
      exact (modeOf_injective (en' := false) (extd' := false).1 hdisabled).2
  refine (execWrmsrIa32ApicBase_of_legal hval (not_baseWriteFaults_of_legal hlegal) (.inl hsame)).trans ?_
  rw [writeBase, hsame, transition_same, State.mapSelf, storeBase_eq hen hextd]
  rfl

/-- Settles O42: the transition is `enterX2apic`, whose free word is the ICR's new high half. -/
theorem enteringX2apicMode : Obligations.EnteringX2apicMode := by
  intro s val hval hmode hquiet hen hextd
  have hlegal : legalTransition val s :=
    ⟨fun _ => ⟨hen, hval.2.2 hextd⟩, fun _ _ => hextd, fun hdisabled => by rw [hmode] at hdisabled; cases hdisabled⟩
  refine ⟨lowHalf s.freeWord,
    (execWrmsrIa32ApicBase_of_legal hval (not_baseWriteFaults_of_legal hlegal) (.inr hquiet)).trans ?_⟩
  rw [writeBase, hen, hextd, hmode, State.mapSelf, storeBase_eq hen hextd, ← lowHalf_eq_setWidth,
    ← extractLsb'_zero_eq_setWidth]
  rfl

/-! ### What a transition to or from Disabled forgets -/

theorem and_and_not_self {w : Nat} (v m : BitVec w) : v &&& m &&& ~~~m = 0#w := by
  rw [BitVec.and_assoc, BitVec.and_not_self]
  exact BitVec.and_zero

theorem and_not_and_self {w : Nat} (v m : BitVec w) : v &&& ~~~m &&& m = 0#w := by
  rw [BitVec.and_assoc, BitVec.and_comm (~~~m), BitVec.and_not_self]
  exact BitVec.and_zero

theorem boundedCount_le (icr count : W32) : boundedCount icr count ≤ icr := by
  unfold boundedCount
  split
  case isTrue h => exact h
  case isFalse => exact BitVec.le_refl icr

theorem forgetRegisters_timerInv (n : Nat) (u : Apic) : TimerInv (forgetRegisters n u) := by
  refine ⟨boundedCount_le _ _, fun hrunning => ?_⟩
  exact bne_iff_ne.1 (Bool.and_eq_true _ _ ▸ hrunning).2

theorem lvtBits_and_not_lvtWr (free : W32) (p : Params) (x : LvtId) : free &&& lvtBits p x &&& ~~~(lvtWr x) = 0#32 := by
  rw [lvtBits, BitVec.and_comm (lvtWr x), ← BitVec.and_assoc, and_and_not_self]

theorem or_and_self {w : Nat} (v m : BitVec w) : (v ||| m) &&& m = m := by
  rw [BitVec.and_comm, BitVec.and_or_distrib_left, BitVec.and_self, BitVec.and_comm]
  apply BitVec.eq_of_getLsbD_eq
  intro i hi
  rw [BitVec.getLsbD_or, BitVec.getLsbD_and]
  cases v.getLsbD i <;> cases m.getLsbD i <;> rfl

theorem append_and_rsvdIcr {high low : W32} {p : Params} (h : low &&& p.rsvd.icr = 0#32) :
    (high ++ low) &&& rsvdIcr p = 0#64 := by
  rw [rsvdIcr, and_append_eq_zero_iff, highHalf_append, lowHalf_append]
  exact ⟨BitVec.and_zero, h⟩

theorem forgetRegisters_lvtHeld {u : Apic} (hcmci : lvtHeld .cmci u.lvtCmci) (n : Nat) (x : LvtId) :
    lvtHeld x ((forgetRegisters n u).lvt x) := by
  cases x
  case cmci =>
    change lvtHeld .cmci (if u.hw.hasLvtCmci then _ else u.lvtCmci)
    split
    · exact lvtBits_and_not_lvtWr _ _ _
    · exact hcmci
  all_goals exact lvtBits_and_not_lvtWr _ _ _

theorem forgetRegisters_reservedInv {u : Apic} (hcmci : lvtHeld .cmci u.lvtCmci) (n : Nat) :
    ReservedInv (forgetRegisters n u) where
  svr := and_and_not_self _ _
  esr := and_and_not_self _ _
  esrPending := and_and_not_self _ _
  icr := append_and_rsvdIcr (and_not_and_self _ _)
  timerDcr := and_not_and_self _ _
  dfr := or_and_self _ _
  lvt := forgetRegisters_lvtHeld hcmci n

theorem forgetRegisters_lvtCmci {u : Apic} (h : u.hw.hasLvtCmci = false) (n : Nat) :
    (forgetRegisters n u).lvtCmci = u.lvtCmci :=
  if_neg (Bool.eq_false_iff.1 h)

/-- Settles O43: the transition is `enterDisabled`. -/
theorem enteringDisabled : Obligations.EnteringDisabled := by
  intro s val hval hmode hquiet hen hextd
  have hlegal : legalTransition val s := by
    refine ⟨fun h10 => ?_, fun _ h11 => ?_, fun hdisabled => ?_⟩
    · rw [hextd] at h10
      cases h10
    · rw [hen] at h11
      cases h11
    · rcases hmode with h | h <;> rw [h] at hdisabled <;> cases hdisabled
  have hwrite : writeBase val s = enterDisabled (s.mapSelf (storeBase val)) := by
    rw [writeBase, hen, hextd]
    rcases hmode with h | h <;> rw [h] <;> rfl
  refine ⟨_, execWrmsrIa32ApicBase_of_legal hval (not_baseWriteFaults_of_legal hlegal) (.inr hquiet), ?_⟩
  rw [hwrite, State.mapSelf, storeBase_eq hen hextd]
  have htimer := forgetRegisters_timerInv s.draws (storeBase val s.self)
  refine ⟨rfl, rfl, rfl, rfl, rfl, rfl, ⟨htimer.bounded, htimer.running⟩, fun hcmci => ?_,
    fun hnone => forgetRegisters_lvtCmci (u := storeBase val s.self) hnone _, rfl, rfl, rfl, rfl, rfl⟩
  obtain ⟨hsvr, hesr, hpending, hicr, hdcr, hdfr, hlvt⟩ :=
    forgetRegisters_reservedInv (u := storeBase val s.self) hcmci s.draws
  exact ⟨hsvr, hesr, hpending, hicr, hdcr, hdfr, hlvt⟩

/-- Settles O44: the transition is `enterXapic`, which also shows the hardware's ID again. -/
theorem leavingDisabled : Obligations.LeavingDisabled := by
  intro s val hval hmode hquiet hen hextd
  have hlegal : legalTransition val s := by
    refine ⟨fun h10 => ?_, fun hx2apic => ?_, fun _ _ => hextd⟩
    · rw [hextd] at h10
      cases h10
    · rw [hmode] at hx2apic
      cases hx2apic
  have hwrite : writeBase val s = enterXapic (s.mapSelf (storeBase val)) := by
    rw [writeBase, hen, hextd, hmode]
    rfl
  refine ⟨_, execWrmsrIa32ApicBase_of_legal hval (not_baseWriteFaults_of_legal hlegal) (.inr hquiet), ?_⟩
  rw [hwrite, State.mapSelf, storeBase_eq hen hextd, ← extractLsb'_zero_eq_setWidth]
  have htimer := forgetRegisters_timerInv s.draws (storeBase val s.self)
  refine ⟨rfl, rfl, rfl, rfl, rfl, rfl, ⟨htimer.bounded, htimer.running⟩, fun hcmci => ?_,
    fun hnone => forgetRegisters_lvtCmci (u := storeBase val s.self) hnone _, rfl, rfl, rfl, rfl, rfl⟩
  obtain ⟨hsvr, hesr, hpending, hicr, hdcr, hdfr, hlvt⟩ :=
    forgetRegisters_reservedInv (u := storeBase val s.self) hcmci s.draws
  exact ⟨hsvr, hesr, hpending, hicr, hdcr, hdfr, hlvt⟩

end Sys2Proof.Machine
end

section
/-! PROOFS. What the rows have in common. Every row of the map is one of a few templates: an MSR access that always
raises GP(0), a RDMSR of a value, a WRMSR with a write rule, a LOAD, a STORE, a CPUID, the accesses of IA32_APIC_BASE
and the three byte encodings. `exec_meaning` says it once for each row; the statements about every operation use it,
and no other proof goes through the rows. -/

namespace Sys2Proof.Machine

open Sys2Proof.Statements

/-! ### The write rules -/

/-- `t` is `s` after one of the write rules, with what its operation has checked or masked of the value. -/
inductive Effect (s : State) : State → Prop
  | tpr (v : Byte) : Effect s (writeTpr v s)
  | svr {v : W32} (h : v &&& ~~~(svrBitsXapic s.self.hw) = 0#32) : Effect s (writeSvr v s)
  | esr : Effect s (latchEsr s)
  | eoi : Effect s (eoi s)
  | lvt (x : LvtId) (v : W32) : Effect s (storeLvt x v s)
  | icr {val : W64} (h : val &&& rsvdIcr s.self.hw = 0#64) : Effect s (writeIcr val s)
  | icrLow (val : W32) : Effect s (writeIcrLow val s)
  | icrHigh (val : W32) : Effect s (s.mapSelf fun u => { u with icr := (val &&& topByteBits) ++ lowHalf u.icr })
  | timerIcr (v : W32) : Effect s (writeTimerIcr v s)
  | timerDcr {v : W32} (h : v &&& s.self.hw.rsvd.timerDcr = 0#32) : Effect s (writeTimerDcr v s)
  | selfIpi (vec : Byte) : Effect s (sendCommand (selfCommand vec) s)
  | xapicId (h : s.self.mode = .xapic) (id : Byte) : Effect s (s.mapSelf fun u => { u with xapicId := id })
  | ldr (h : s.self.mode = .xapic) (v : W32) : Effect s (s.mapSelf fun u => { u with ldr := v })
  | dfr (v : W32) : Effect s (s.mapSelf fun u => { u with dfr := v ||| dfrOnes })
  | illegal : Effect s (logError 7 s)

/-! ### The templates -/

/-- `o` is what a row `i` of one of the templates does in `s`. -/
inductive Meaning (s : State) : Instr → Outcome → Prop
  | baseRead : Meaning s .rdmsrIa32ApicBase (execRdmsrIa32ApicBase s)
  | baseWrite (val : W64) : Meaning s (.wrmsrIa32ApicBase val) (execWrmsrIa32ApicBase val s)
  | readGp {i : Instr} {off : BitVec 10} (hi : encode i = rdmsrOf off) : Meaning s i (alwaysGP s)
  | read {i : Instr} {off : BitVec 10} (hi : encode i = rdmsrOf off) {val : W64}
      (hhigh : off ≠ 0x030#10 → highHalf val = 0#32) (n : Nat) : Meaning s i (rdmsrThen val (s.drew n) s)
  | writeGp {i : Instr} {off : BitVec 10} {val : W64} (hi : encode i = wrmsrOf off val) : Meaning s i (alwaysGP s)
  | write {i : Instr} {off : BitVec 10} {val rsvd : W64} {f : State → State} (hi : encode i = wrmsrOf off val)
      (hmask : val &&& rsvd = 0#64 → highHalf val = 0#32) (heffect : val &&& rsvd = 0#64 → Effect s (f s)) :
      Meaning s i (wrmsr rsvd val f s)
  | icr (val : W64) : Meaning s (.wrmsrIcr val) (execWrmsrIcr val s)
  | load {i : Instr} {page : PageNo} {slot : Byte} (hi : encode i = loadOf page slot) {f : State → State} (n : Nat)
      {val : W32} (hf : f s = (s.drew n).answered (.data val)) : Meaning s i (mmio page f s)
  | illegalLoad {i : Instr} {page : PageNo} {slot : Byte} (hi : encode i = loadOf page slot)
      (hillegal : i = .loadEoi page
        ∨ (i = .loadReserved page slot ∧ ¬(slot = 0x2F#8 ∧ s.self.hw.hasLvtCmci = true))) :
      Meaning s i (mmio page illegalLoad s)
  | store {i : Instr} {page : PageNo} {slot : Byte} {val : W32} (hi : encode i = storeOf page slot val)
      {f : State → State} (heffect : s.self.mode = .xapic → Effect s (f s)) : Meaning s i (store page f s)
  | icrLow (page : PageNo) (val : W32) : Meaning s (.storeIcrLo page val) (execStoreIcrLo page val s)
  | cpuid {i : Instr} {leaf sub : W32} (hi : encode i = .cpuid leaf sub) (n : Nat) (a b c d : W32) :
      Meaning s i (.next ((s.drew n).answered (.cpuid a b c d)))
  | x86Rdmsr : Meaning s .x86Rdmsr (execX86Rdmsr s)
  | x86Wrmsr : Meaning s .x86Wrmsr (execX86Wrmsr s)
  | x86Cpuid : Meaning s .x86Cpuid (execX86Cpuid s)

/-! ### Data words -/

theorem highHalf_zext64 (v : W32) : highHalf (zext64 v) = 0#32 := by rw [zext64_eq_append, highHalf_append]

theorem highHalf_masked (v mask : W32) : highHalf (zext64 v &&& ~~~(wordMask mask)) = 0#32 := by
  rw [zext64_and_not_wordMask]
  exact highHalf_zext64 _

theorem highHalf_of_wordMask {val : W64} {mask : W32} (h : val &&& wordMask mask = 0#64) : highHalf val = 0#32 :=
  (and_wordMask_eq_zero_iff.1 h).1

/-! ### The rows of a template -/

namespace Meaning

variable {s : State} {i : Instr} {off : BitVec 10} {page : PageNo} {slot : Byte}

theorem rdmsr (hi : encode i = rdmsrOf off) (v : W32) : Meaning s i (Machine.rdmsr (zext64 v) s) :=
  read hi (fun _ => highHalf_zext64 v) 0

theorem rdmsrMasked (hi : encode i = rdmsrOf off) (mask v : W32) :
    Meaning s i (Machine.rdmsrMasked (wordMask mask) (zext64 v) s) :=
  read hi (fun _ => highHalf_masked v mask) 0

theorem readLvt (hi : encode i = rdmsrOf off) (x : LvtId) : Meaning s i (Machine.readLvt x s) := by
  refine read hi (fun _ => ?_) 1
  cases x <;> exact highHalf_masked _ _

theorem wrmsrWord {val : W64} {mask : W32} {f : State → State} (hi : encode i = wrmsrOf off val)
    (heffect : lowHalf val &&& mask = 0#32 → Effect s (f s)) : Meaning s i (wrmsr (wordMask mask) val f s) :=
  write hi highHalf_of_wordMask fun h => heffect (and_wordMask_eq_zero_iff.1 h).2

theorem wrmsrZero {val : W64} {f : State → State} (hi : encode i = wrmsrOf off val) (heffect : Effect s (f s)) :
    Meaning s i (wrmsr 0xFFFFFFFFFFFFFFFF#64 val f s) := by
  refine write hi (fun h => ?_) fun _ => heffect
  rw [show val = 0#64 from (BitVec.and_allOnes (x := val)).symm.trans h]
  rfl

theorem writeLvt {val : W64} (hi : encode i = wrmsrOf off val) (x : LvtId) :
    Meaning s i (Machine.writeLvt x val s) := by
  refine write hi (fun h => ?_) fun _ => .lvt x _
  have hrsvd := (and_or_eq_zero_iff.1 h).1
  cases x <;> exact highHalf_of_wordMask hrsvd

theorem answersData (hi : encode i = loadOf page slot) (val : W32) : Meaning s i (Machine.load page val s) :=
  load hi 0 rfl

theorem loadLvt (hi : encode i = loadOf page slot) (x : LvtId) : Meaning s i (Machine.loadLvt page x s) := load hi 1 rfl

theorem answersFree (hi : encode i = loadOf page slot) : Meaning s i (mmio page answerFree s) := load hi 1 rfl

theorem loadPpr (hi : encode i = loadOf page slot) : Meaning s i (execLoadPpr page s) := by
  unfold execLoadPpr
  exact load hi 1 rfl

theorem writes {val : W32} {f : State → State} (hi : encode i = storeOf page slot val) (heffect : Effect s (f s)) :
    Meaning s i (Machine.store page f s) :=
  store hi fun _ => heffect

theorem storeLvt {val v : W32} (hi : encode i = storeOf page slot v) (x : LvtId) :
    Meaning s i (storeLvtXapic page x val s) :=
  writes hi (.lvt x _)

theorem illegalStore {val : W32} (hi : encode i = storeOf page slot val) : Meaning s i (Machine.illegalStore page s) :=
  writes hi .illegal

end Meaning

/-! ### The values of the write rules -/

theorem svrBits_of_reserved {p : Params} {v mask : W32} (hmask : svrBitsXapic p = ~~~mask ||| 0x00000200#32)
    (h : v &&& mask = 0#32) : v &&& ~~~(svrBitsXapic p) = 0#32 := by
  rw [hmask, BitVec.not_or, BitVec.not_not, ← BitVec.and_assoc, h, BitVec.zero_and]

theorem effect_wrmsrSvr {s : State} {v : W32} (h : v &&& svrRsvd s.self.hw = 0#32) : Effect s (writeSvr v s) :=
  .svr (svrBits_of_reserved (svrBitsXapic_eq _) h)

/-- Every row has the meaning of one of the templates. -/
theorem exec_meaning (i : Instr) (s : State) : Meaning s i (exec i s) := by
  cases i
  case rdmsrIa32ApicBase => exact .baseRead
  case wrmsrIa32ApicBase val => exact .baseWrite val
  case x86Rdmsr => exact .x86Rdmsr
  case x86Wrmsr => exact .x86Wrmsr
  case x86Cpuid => exact .x86Cpuid
  case cpuid01h sub => exact .cpuid rfl 4 _ _ _ _
  case cpuid0bh sub => exact .cpuid rfl 0 _ _ _ _
  case rdmsrId | rdmsrVer | rdmsrLdr | rdmsrIsrk | rdmsrTmrk | rdmsrIrrk | rdmsrEsr | rdmsrTimerCcr =>
    exact .rdmsr rfl _
  case rdmsrTpr | rdmsrSvr | rdmsrTimerIcr | rdmsrTimerDcr => exact .rdmsrMasked rfl _ _
  case rdmsrPpr => exact .read rfl (fun _ => highHalf_zext64 _) 1
  case rdmsrIcr => exact .read rfl (fun h => absurd rfl h) 1
  case rdmsrLvtTimer | rdmsrLvtThermal | rdmsrLvtPmr | rdmsrLvtLint0 | rdmsrLvtLint1 | rdmsrLvtError =>
    exact .readLvt rfl _
  case rdmsrReserved82F =>
    change Meaning s .rdmsrReserved82F (if s.self.hw.hasLvtCmci then readLvt .cmci s else alwaysGP s)
    split
    · exact .readLvt rfl .cmci
    · exact .readGp rfl
  case rdmsrEoi | rdmsrSelfIpi | rdmsrReserved800 | rdmsrReserved801 | rdmsrReserved804 | rdmsrReserved805 |
      rdmsrReserved806 | rdmsrReserved807 | rdmsrReserved809 | rdmsrReserved80C | rdmsrReserved80E |
      rdmsrReserved829 | rdmsrReserved82A | rdmsrReserved82B | rdmsrReserved82C | rdmsrReserved82D |
      rdmsrReserved82E | rdmsrReserved831 | rdmsrReserved83A | rdmsrReserved83B | rdmsrReserved83C |
      rdmsrReserved83D | rdmsrReserved => exact .readGp rfl
  case wrmsrTpr val => exact .wrmsrWord rfl fun _ => .tpr _
  case wrmsrEoi val => exact .wrmsrZero rfl .eoi
  case wrmsrSvr val => exact .wrmsrWord rfl effect_wrmsrSvr
  case wrmsrEsr val => exact .wrmsrZero rfl .esr
  case wrmsrIcr val => exact .icr val
  case wrmsrTimerIcr val => exact .wrmsrWord rfl fun _ => .timerIcr _
  case wrmsrTimerDcr val => exact .wrmsrWord rfl .timerDcr
  case wrmsrSelfIpi val => exact .wrmsrWord rfl fun _ => .selfIpi _
  case wrmsrLvtTimer | wrmsrLvtThermal | wrmsrLvtPmr | wrmsrLvtLint0 | wrmsrLvtLint1 | wrmsrLvtError =>
    exact .writeLvt rfl _
  case wrmsrReserved82F val =>
    change Meaning s (.wrmsrReserved82F val) (if s.self.hw.hasLvtCmci then writeLvt .cmci val s else alwaysGP s)
    split
    · exact .writeLvt rfl .cmci
    · exact .writeGp rfl
  case wrmsrId | wrmsrVer | wrmsrPpr | wrmsrLdr | wrmsrTimerCcr | wrmsrIsrk | wrmsrTmrk | wrmsrIrrk |
      wrmsrReserved800 | wrmsrReserved801 | wrmsrReserved804 | wrmsrReserved805 | wrmsrReserved806 |
      wrmsrReserved807 | wrmsrReserved809 | wrmsrReserved80C | wrmsrReserved80E | wrmsrReserved829 |
      wrmsrReserved82A | wrmsrReserved82B | wrmsrReserved82C | wrmsrReserved82D | wrmsrReserved82E |
      wrmsrReserved831 | wrmsrReserved83A | wrmsrReserved83B | wrmsrReserved83C | wrmsrReserved83D | wrmsrReserved =>
    exact .writeGp rfl
  case loadId | loadVer | loadTpr | loadLdr | loadDfr | loadSvr | loadEsr | loadTimerIcr | loadTimerCcr |
      loadTimerDcr | loadIsrk | loadTmrk | loadIrrk | loadIcrLo | loadIcrHi => exact .answersData rfl _
  case loadApr | loadRrr => exact .answersFree rfl
  case loadPpr => exact .loadPpr rfl
  case loadEoi => exact .illegalLoad rfl (.inl rfl)
  case loadLvtTimer | loadLvtThermal | loadLvtPmr | loadLvtLint0 | loadLvtLint1 | loadLvtError => exact .loadLvt rfl _
  case loadReserved page slot =>
    change Meaning s (.loadReserved page slot) (execLoadReserved page slot s)
    unfold execLoadReserved
    split
    case isTrue hcmci => exact .loadLvt rfl .cmci
    case isFalse hcmci => exact .illegalLoad rfl (.inr ⟨rfl, hcmci⟩)
  case storeId page val => exact .store rfl fun hmode => .xapicId hmode _
  case storeLdr page val => exact .store rfl fun hmode => .ldr hmode _
  case storeTpr page val => exact .writes rfl (.tpr _)
  case storeDfr page val => exact .writes rfl (.dfr val)
  case storeSvr page val => exact .writes rfl (.svr (and_and_not_self _ _))
  case storeEsr page val => exact .writes rfl .esr
  case storeEoi page val => exact .writes rfl .eoi
  case storeTimerIcr page val => exact .writes rfl (.timerIcr _)
  case storeTimerDcr page val => exact .writes rfl (.timerDcr (and_not_and_self _ _))
  case storeIcrLo page val => exact .icrLow page val
  case storeIcrHi page val => exact .writes rfl (.icrHigh val)
  case storeLvtTimer | storeLvtThermal | storeLvtPmr | storeLvtLint0 | storeLvtLint1 | storeLvtError =>
    exact .storeLvt rfl _
  case storeReserved page slot val =>
    change Meaning s (.storeReserved page slot val) (execStoreReserved page slot val s)
    unfold execStoreReserved
    split
    · exact .storeLvt rfl .cmci
    · exact .illegalStore rfl
  case storeVer | storeApr | storePpr | storeRrr | storeTimerCcr | storeIsrk | storeTmrk | storeIrrk =>
    exact .illegalStore rfl

end Sys2Proof.Machine
end

section
/-! PROOFS. O12, O13, O14, O19, O52, O53: what an operation does by its format. -/

namespace Sys2Proof.Machine

open Sys2Proof.Statements

/-! ### The two MSR formats -/

theorem rdmsrOf_injective {off off' : BitVec 10} (h : rdmsrOf off = rdmsrOf off') : off = off' :=
  (append_eq_append_iff.1 (Access.msrR.inj h)).2

theorem wrmsrOf_injective {off off' : BitVec 10} {val val' : W64} (h : wrmsrOf off val = wrmsrOf off' val') :
    off = off' ∧ val = val' := by
  obtain ⟨haddr, hval⟩ := Access.msrW.inj h
  exact ⟨(append_eq_append_iff.1 haddr).2, hval⟩

/-- A RDMSR of 800H to BFFH always raises GP(0), or answers a word whose upper half is zero but for the ICR's. -/
theorem exec_of_rdmsrOf {i : Instr} {off : BitVec 10} (hi : encode i = rdmsrOf off) (s : State) :
    exec i s = .next (gp s)
      ∨ ∃ n val, (off ≠ 0x030#10 → highHalf val = 0#32) ∧ exec i s = rdmsrThen val (s.drew n) s := by
  have h := exec_meaning i s
  generalize exec i s = o at h ⊢
  cases h with
  | readGp _ => exact .inl rfl
  | read hi' hhigh n =>
    cases rdmsrOf_injective (hi.symm.trans hi')
    exact .inr ⟨n, _, hhigh, rfl⟩
  | baseRead => exact absurd (Access.msrR.inj hi).symm (ne_base_of_select off)
  | writeGp hi' => exact nomatch hi.symm.trans hi'
  | write hi' _ _ => exact nomatch hi.symm.trans hi'
  | load hi' _ _ => exact nomatch hi.symm.trans hi'
  | illegalLoad hi' _ => exact nomatch hi.symm.trans hi'
  | store hi' _ => exact nomatch hi.symm.trans hi'
  | cpuid hi' _ _ _ _ _ => exact nomatch hi.symm.trans hi'
  | baseWrite _ => exact nomatch hi
  | icr _ => exact nomatch hi
  | icrLow _ _ => exact nomatch hi
  | x86Rdmsr => exact nomatch hi
  | x86Wrmsr => exact nomatch hi
  | x86Cpuid => exact nomatch hi

/-- A WRMSR of 800H to BFFH always raises GP(0), or is the checks and a write rule, the upper half reserved; the ICR's
is the third. -/
theorem exec_of_wrmsrOf {i : Instr} {off : BitVec 10} {val : W64} (hi : encode i = wrmsrOf off val) (s : State) :
    exec i s = .next (gp s)
      ∨ (∃ rsvd f, (val &&& rsvd = 0#64 → highHalf val = 0#32) ∧ (val &&& rsvd = 0#64 → Effect s (f s))
        ∧ exec i s = wrmsr rsvd val f s)
      ∨ (off = 0x030#10 ∧ exec i s = execWrmsrIcr val s) := by
  have h := exec_meaning i s
  generalize exec i s = o at h ⊢
  cases h with
  | writeGp _ => exact .inl rfl
  | write hi' hmask heffect =>
    obtain ⟨rfl, rfl⟩ := wrmsrOf_injective (hi.symm.trans hi')
    exact .inr (.inl ⟨_, _, hmask, heffect, rfl⟩)
  | icr val' =>
    obtain ⟨rfl, rfl⟩ := wrmsrOf_injective (off := 0x030#10) hi
    exact .inr (.inr ⟨rfl, rfl⟩)
  | baseWrite _ => exact absurd (Access.msrW.inj hi).1.symm (ne_base_of_select off)
  | readGp hi' => exact nomatch hi.symm.trans hi'
  | read hi' _ _ => exact nomatch hi.symm.trans hi'
  | load hi' _ _ => exact nomatch hi.symm.trans hi'
  | illegalLoad hi' _ => exact nomatch hi.symm.trans hi'
  | store hi' _ => exact nomatch hi.symm.trans hi'
  | cpuid hi' _ _ _ _ _ => exact nomatch hi.symm.trans hi'
  | baseRead => exact nomatch hi
  | icrLow _ _ => exact nomatch hi
  | x86Rdmsr => exact nomatch hi
  | x86Wrmsr => exact nomatch hi
  | x86Cpuid => exact nomatch hi

/-! ### MSR accesses that do not pass the common checks -/

theorem rdmsrThen_of_closed {s : State} (h : msrOpen s = false) (val : W64) (after : State) :
    rdmsrThen val after s = .next (gp s) := by
  rw [rdmsrThen, h]
  rfl

theorem wrmsr_of_closed {s : State} (h : msrOpen s = false) (rsvd val : W64) (f : State → State) :
    wrmsr rsvd val f s = .next (gp s) := by
  rw [wrmsr, h, Bool.false_and]
  rfl

theorem execWrmsrIcr_of_closed {s : State} (h : msrOpen s = false) (val : W64) : execWrmsrIcr val s = .next (gp s) := by
  rw [execWrmsrIcr, h, Bool.false_and, Bool.false_and]
  exact wrmsr_of_closed h _ _ _

theorem exec_rdmsrOf_of_closed {i : Instr} {off : BitVec 10} (hi : encode i = rdmsrOf off) {s : State}
    (h : msrOpen s = false) : exec i s = .next (gp s) := by
  obtain hgp | ⟨n, val, -, hread⟩ := exec_of_rdmsrOf hi s
  · exact hgp
  · rw [hread, rdmsrThen_of_closed h]

theorem exec_wrmsrOf_of_closed {i : Instr} {off : BitVec 10} {val : W64} (hi : encode i = wrmsrOf off val) {s : State}
    (h : msrOpen s = false) : exec i s = .next (gp s) := by
  obtain hgp | ⟨rsvd, f, -, -, hwrite⟩ | ⟨-, hicr⟩ := exec_of_wrmsrOf hi s
  · exact hgp
  · rw [hwrite, wrmsr_of_closed h]
  · rw [hicr, execWrmsrIcr_of_closed h]

theorem msrOpen_of_not_x2apic {s : State} (h : s.self.mode ≠ .x2apic) : msrOpen s = false := by
  rw [Bool.eq_false_iff, ne_eq, msrOpen_iff]
  exact fun hopen => h hopen.2

theorem msrOpen_of_cpl {s : State} (h : s.self.core.cpl ≠ 0#2) : msrOpen s = false := by
  rw [Bool.eq_false_iff, ne_eq, msrOpen_iff]
  exact fun hopen => h hopen.1

/-- Settles O12: the address decodes to a row of its offset, which does not pass the common checks. -/
theorem msrsFaultOutsideX2apicMode : Obligations.MsrsFaultOutsideX2apicMode := by
  intro s addr hmode hrange
  have hclosed := msrOpen_of_not_x2apic hmode
  refine ⟨⟨_, decode_msrR_of_range hrange, ?_⟩, fun val => ⟨_, decode_msrW_of_range hrange val, ?_⟩⟩
  · exact exec_rdmsrOf_of_closed (rdmsrAt_isRowOf _).2 hclosed
  · exact exec_wrmsrOf_of_closed (wrmsrAt_isRowOf val _).2 hclosed

/-! ### What an MSR address decodes to -/

theorem decode_msrR_cases {addr : W32} {i : Instr} (h : decode (.msrR addr) = .ok i) :
    (addr = 0x1B#32 ∧ i = .rdmsrIa32ApicBase) ∨ ∃ off, addr = 2#22 ++ off ∧ i = rdmsrAt off := by
  by_cases hbase : addr = 0x1B#32
  · subst hbase
    cases h
    exact .inl ⟨rfl, rfl⟩
  · by_cases hrange : inMsrRange addr
    · rw [decode_msrR_of_range hrange] at h
      cases h
      exact .inr ⟨_, addr_eq_append_of_range hrange, rfl⟩
    · cases (decodeRdmsr_outside hbase hrange).symm.trans h

theorem decode_msrW_cases {addr : W32} {val : W64} {i : Instr} (h : decode (.msrW addr val) = .ok i) :
    (addr = 0x1B#32 ∧ i = .wrmsrIa32ApicBase val) ∨ ∃ off, addr = 2#22 ++ off ∧ i = wrmsrAt off val := by
  by_cases hbase : addr = 0x1B#32
  · subst hbase
    cases h
    exact .inl ⟨rfl, rfl⟩
  · by_cases hrange : inMsrRange addr
    · rw [decode_msrW_of_range hrange] at h
      cases h
      exact .inr ⟨_, addr_eq_append_of_range hrange, rfl⟩
    · cases (decodeWrmsr_outside hbase hrange val).symm.trans h

theorem execRdmsrIa32ApicBase_of_cpl {s : State} (h : s.self.core.cpl ≠ 0#2) :
    execRdmsrIa32ApicBase s = .next (gp s) := by
  rw [execRdmsrIa32ApicBase, if_neg h]
  rfl

/-- Settles O13: IA32_APIC_BASE tests the privilege itself, the other rows by the common checks. -/
theorem msrsFaultAboveCplZero : Obligations.MsrsFaultAboveCplZero := by
  intro s hcpl
  refine ⟨fun addr i hi => ?_, fun addr val i hi => ?_, if_pos hcpl, if_pos hcpl⟩
  · obtain ⟨-, rfl⟩ | ⟨off, -, rfl⟩ := decode_msrR_cases hi
    · exact execRdmsrIa32ApicBase_of_cpl hcpl
    · exact exec_rdmsrOf_of_closed (rdmsrAt_isRowOf off).2 (msrOpen_of_cpl hcpl)
  · obtain ⟨-, rfl⟩ | ⟨off, -, rfl⟩ := decode_msrW_cases hi
    · exact execWrmsrIa32ApicBase_of_gp (.inl hcpl)
    · exact exec_wrmsrOf_of_closed (wrmsrAt_isRowOf val off).2 (msrOpen_of_cpl hcpl)

theorem encode_of_range {addr : W32} {i : Instr} (hrange : inMsrRange addr) (h : decode (.msrR addr) = .ok i) :
    encode i = rdmsrOf (addr.setWidth 10) :=
  (encode_of_decode h).trans (congrArg Access.msrR (addr_eq_append_of_range hrange))

theorem encode_write_of_range {addr : W32} {val : W64} {i : Instr} (hrange : inMsrRange addr)
    (h : decode (.msrW addr val) = .ok i) : encode i = wrmsrOf (addr.setWidth 10) val :=
  (encode_of_decode h).trans (congrArg (Access.msrW · val) (addr_eq_append_of_range hrange))

theorem offset_ne_icr {addr : W32} (hrange : inMsrRange addr) (h : addr ≠ 0x830#32) : addr.setWidth 10 ≠ 0x030#10 := by
  intro hoff
  have haddr := addr_eq_append_of_range hrange
  rw [hoff] at haddr
  exact h haddr

/-- Settles O14: the write's mask holds the upper half, and the read's word is zero there. -/
theorem upperHalfOfTheDataWordIsReserved : Obligations.UpperHalfOfTheDataWordIsReserved := by
  intro s addr hrange hicr
  refine ⟨fun val i hhigh hi => ?_, fun i t v hi ht hv => ?_⟩
  · obtain hgp | ⟨rsvd, f, hmask, -, hwrite⟩ | ⟨hoff, -⟩ := exec_of_wrmsrOf (encode_write_of_range hrange hi) s
    · exact hgp
    · rw [hwrite, wrmsr_of_reserved fun h => hhigh (hmask h)]
    · exact absurd hoff (offset_ne_icr hrange hicr)
  · obtain hgp | ⟨n, val, hhigh, hread⟩ := exec_of_rdmsrOf (encode_of_range hrange hi) s
    · rw [hgp] at ht
      cases ht
      cases hv
    · obtain ⟨-, rfl⟩ | ⟨-, rfl⟩ := rdmsrThen_cases (hread ▸ ht)
      · cases hv
        exact hhigh (offset_ne_icr hrange hicr)
      · cases hv

/-! ### Reads -/

/-- Between `s` and `t` nothing has changed but the answer and the number of free values used. -/
def ChangesOnlyAnswer (s t : State) : Prop := t = withAnswer t.self.core.answer { s with draws := t.draws }

theorem answered_changesOnlyAnswer (n : Nat) (a : Answer) (s : State) :
    ChangesOnlyAnswer s ((s.drew n).answered a) := rfl

theorem rdmsrThen_changesOnlyAnswer {val : W64} {n : Nat} {s t : State} (h : rdmsrThen val (s.drew n) s = .next t) :
    ChangesOnlyAnswer s t := by
  obtain ⟨-, rfl⟩ | ⟨-, rfl⟩ := rdmsrThen_cases h
  · exact answered_changesOnlyAnswer n _ s
  · exact answered_changesOnlyAnswer 0 _ s

theorem execRdmsrIa32ApicBase_changesOnlyAnswer {s t : State} (h : execRdmsrIa32ApicBase s = .next t) :
    ChangesOnlyAnswer s t := by
  unfold execRdmsrIa32ApicBase at h
  split at h <;> cases h <;> exact answered_changesOnlyAnswer 0 _ s

/-- An access of one of the three reading formats, and no LOAD of another one than the illegal ones. -/
def IsPlainRead (s : State) (i : Instr) : Prop :=
  (∃ addr, encode i = .msrR addr) ∨ (∃ leaf sub, encode i = .cpuid leaf sub)
    ∨ ((∃ pa width, encode i = .mmioR pa width) ∧ (∀ page, i ≠ .loadEoi page)
      ∧ ∀ page slot, i = .loadReserved page slot → slot = 0x2F#8 ∧ s.self.hw.hasLvtCmci = true)

theorem not_isPlainRead_of_msrW {s : State} {i : Instr} {addr : W32} {val : W64} (hi : encode i = .msrW addr val) :
    ¬ IsPlainRead s i := by
  rintro (⟨_, h⟩ | ⟨_, _, h⟩ | ⟨⟨_, _, h⟩, -⟩) <;> cases hi.symm.trans h

theorem not_isPlainRead_of_mmioW {s : State} {i : Instr} {pa : W64} {width : Nat} {val : W32}
    (hi : encode i = .mmioW pa width val) : ¬ IsPlainRead s i := by
  rintro (⟨_, h⟩ | ⟨_, _, h⟩ | ⟨⟨_, _, h⟩, -⟩) <;> cases hi.symm.trans h

theorem not_isPlainRead_of_x86 {s : State} {i : Instr} {bytes : List Byte} (hi : encode i = .x86 bytes) :
    ¬ IsPlainRead s i := by
  rintro (⟨_, h⟩ | ⟨_, _, h⟩ | ⟨⟨_, _, h⟩, -⟩) <;> cases hi.symm.trans h

theorem not_isPlainRead_of_illegal {s : State} {i : Instr} {page : PageNo} {slot : Byte}
    (hi : encode i = loadOf page slot)
    (hillegal : i = .loadEoi page ∨ (i = .loadReserved page slot ∧ ¬(slot = 0x2F#8 ∧ s.self.hw.hasLvtCmci = true))) :
    ¬ IsPlainRead s i := by
  rintro (⟨_, h⟩ | ⟨_, _, h⟩ | ⟨-, heoi, hreserved⟩)
  · cases hi.symm.trans h
  · cases hi.symm.trans h
  · rcases hillegal with heq | ⟨heq, hnone⟩
    · exact heoi page heq
    · exact hnone (hreserved page slot heq)

/-- Settles O19: the reading templates answer, and every other one is no such read. -/
theorem readsChangeNothing : Obligations.ReadsChangeNothing := by
  intro i s t ht hread
  change IsPlainRead s i at hread
  change ChangesOnlyAnswer s t
  have h := exec_meaning i s
  rw [ht] at h
  generalize ho : (Host.Outcome.next t : Outcome) = o at h
  cases h with
  | baseRead => exact execRdmsrIa32ApicBase_changesOnlyAnswer ho.symm
  | readGp _ =>
    cases ho
    exact answered_changesOnlyAnswer 0 _ s
  | read _ _ n => exact rdmsrThen_changesOnlyAnswer ho.symm
  | load _ n hf =>
    obtain ⟨-, -, rfl⟩ := mmio_cases ho.symm
    rw [hf]
    exact answered_changesOnlyAnswer n _ s
  | cpuid _ n a b c d =>
    cases ho
    exact answered_changesOnlyAnswer n _ s
  | illegalLoad hi hillegal => exact absurd hread (not_isPlainRead_of_illegal hi hillegal)
  | writeGp hi => exact absurd hread (not_isPlainRead_of_msrW hi)
  | write hi _ _ => exact absurd hread (not_isPlainRead_of_msrW hi)
  | store hi _ => exact absurd hread (not_isPlainRead_of_mmioW hi)
  | baseWrite val => exact absurd hread (not_isPlainRead_of_msrW (val := val) rfl)
  | icr val => exact absurd hread (not_isPlainRead_of_msrW (val := val) rfl)
  | icrLow page val => exact absurd hread (not_isPlainRead_of_mmioW (val := val) rfl)
  | x86Rdmsr => exact absurd hread (not_isPlainRead_of_x86 rfl)
  | x86Wrmsr => exact absurd hread (not_isPlainRead_of_x86 rfl)
  | x86Cpuid => exact absurd hread (not_isPlainRead_of_x86 rfl)

/-! ### Accesses of memory -/

/-- The operation `i` is a LOAD or a STORE of the physical address `pa`. -/
def IsMmioAt (i : Instr) (pa : W64) : Prop := encode i = .mmioR pa 4 ∨ ∃ val, encode i = .mmioW pa 4 val

/-- The access is of one of the two formats LOAD and STORE. -/
def isMmioFormat : Access → Bool
  | .mmioR _ _ => true
  | .mmioW _ _ _ => true
  | .msrR _ => false
  | .msrW _ _ => false
  | .cpuid _ _ => false
  | .x86 _ => false

theorem not_isMmioAt {i : Instr} {a : Access} (hi : encode i = a) (ha : isMmioFormat a = false) (pa : W64) :
    ¬ IsMmioAt i pa := by
  rintro (h | ⟨val, h⟩) <;> rw [← hi, h] at ha <;> cases ha

theorem page_of_address {page : PageNo} {slot : Byte} {pa : W64} (h : pa = page ++ (slot ++ 0#4)) :
    page = (pa >>> 12).setWidth 52 := by
  rw [← page_eq_shift, h, mmio_page_append]

theorem page_of_load {i : Instr} {page : PageNo} {slot : Byte} {pa : W64} (hi : IsMmioAt i pa)
    (h : encode i = loadOf page slot) : page = (pa >>> 12).setWidth 52 := by
  obtain hload | ⟨val, hstore⟩ := hi
  · exact page_of_address (Access.mmioR.inj (hload.symm.trans h)).1
  · exact nomatch hstore.symm.trans h

theorem page_of_store {i : Instr} {page : PageNo} {slot : Byte} {val : W32} {pa : W64} (hi : IsMmioAt i pa)
    (h : encode i = storeOf page slot val) : page = (pa >>> 12).setWidth 52 := by
  obtain hload | ⟨val, hstore⟩ := hi
  · exact nomatch hload.symm.trans h
  · exact page_of_address (Access.mmioW.inj (hstore.symm.trans h)).1

theorem mmio_outside {s : State} (h : s.self.mode ≠ .xapic) (page : PageNo) (f : State → State) :
    mmio page f s = .refused .mmioOutsideXapicMode :=
  if_pos h

theorem mmio_otherPage {s : State} (h : s.self.mode = .xapic) {page : PageNo} (hpage : page ≠ s.self.base.page)
    (f : State → State) : mmio page f s = .refused .notTheApicPage := by
  rw [mmio, if_neg (not_not.2 h), if_pos hpage]

theorem execStoreIcrLo_of_not_atPage {s : State} {page : PageNo} (h : ¬ atPage page s) (val : W32) :
    execStoreIcrLo page val s = store page (writeIcrLow val) s := by
  rw [execStoreIcrLo, if_neg]
  exact fun hreserved => h ⟨hreserved.1, hreserved.2.1⟩

/-- A LOAD or STORE that does not reach the unit is the test of mode and page. -/
theorem exec_of_not_atPage {i : Instr} {pa : W64} (hi : IsMmioAt i pa) {s : State}
    (h : ¬ atPage ((pa >>> 12).setWidth 52) s) : ∃ f, exec i s = mmio ((pa >>> 12).setWidth 52) f s := by
  have hmeaning := exec_meaning i s
  generalize exec i s = o at hmeaning ⊢
  cases hmeaning with
  | load hi' _ _ =>
    cases page_of_load hi hi'
    exact ⟨_, rfl⟩
  | illegalLoad hi' _ =>
    cases page_of_load hi hi'
    exact ⟨_, rfl⟩
  | store hi' _ =>
    cases page_of_store hi hi'
    exact ⟨_, rfl⟩
  | icrLow page val =>
    cases page_of_store (slot := 0x30#8) hi rfl
    exact ⟨_, execStoreIcrLo_of_not_atPage h val⟩
  | readGp hi' => exact absurd hi (not_isMmioAt hi' rfl pa)
  | read hi' _ _ => exact absurd hi (not_isMmioAt hi' rfl pa)
  | writeGp hi' => exact absurd hi (not_isMmioAt hi' rfl pa)
  | write hi' _ _ => exact absurd hi (not_isMmioAt hi' rfl pa)
  | cpuid hi' _ _ _ _ _ => exact absurd hi (not_isMmioAt hi' rfl pa)
  | baseRead => exact absurd hi (not_isMmioAt rfl rfl pa)
  | baseWrite _ => exact absurd hi (not_isMmioAt rfl rfl pa)
  | icr _ => exact absurd hi (not_isMmioAt rfl rfl pa)
  | x86Rdmsr => exact absurd hi (not_isMmioAt rfl rfl pa)
  | x86Wrmsr => exact absurd hi (not_isMmioAt rfl rfl pa)
  | x86Cpuid => exact absurd hi (not_isMmioAt rfl rfl pa)

/-- Settles O52: both refusals are those of the test of mode and page. -/
theorem mmioIsRefusedOutsideXapicMode : Obligations.MmioIsRefusedOutsideXapicMode := by
  intro s i pa hi
  refine ⟨fun hmode => ?_, fun hmode hpage => ?_⟩
  · obtain ⟨f, hexec⟩ := exec_of_not_atPage hi (s := s) fun h => hmode h.1
    rw [hexec, mmio_outside hmode]
  · obtain ⟨f, hexec⟩ := exec_of_not_atPage hi (s := s) fun h => hpage h.2
    rw [hexec, mmio_otherPage hmode hpage]

/-! ### The byte encodings -/

/-- A RDMSR row that the byte encoding reaches does there what it does as a row. -/
theorem rdmsrMeaning_rdmsrAt (s : State) (off : BitVec 10) : rdmsrMeaning (rdmsrAt off) s = exec (rdmsrAt off) s := by
  induction off using forall_offset with
  | hdefault off h => rw [rdmsrAt_of_default h]; rfl
  | hentry n => fin_cases n <;> rfl

theorem wrmsrMeaning_wrmsrAt (s : State) (val : W64) (off : BitVec 10) :
    wrmsrMeaning (wrmsrAt off val) s = exec (wrmsrAt off val) s := by
  induction off using forall_offset with
  | hdefault off h => rw [wrmsrAt_of_default h]; rfl
  | hentry n => fin_cases n <;> rfl

theorem rdmsrMeaning_of_decode {addr : W32} {i : Instr} (h : decode (.msrR addr) = .ok i) (s : State) :
    rdmsrMeaning i s = exec i s := by
  obtain ⟨-, rfl⟩ | ⟨off, -, rfl⟩ := decode_msrR_cases h
  · rfl
  · exact rdmsrMeaning_rdmsrAt s off

theorem wrmsrMeaning_of_decode {addr : W32} {val : W64} {i : Instr} (h : decode (.msrW addr val) = .ok i) (s : State) :
    wrmsrMeaning i s = exec i s := by
  obtain ⟨-, rfl⟩ | ⟨off, -, rfl⟩ := decode_msrW_cases h
  · rfl
  · exact wrmsrMeaning_wrmsrAt s val off

theorem execX86Rdmsr_of_decode {s : State} {i : Instr} (hcpl : s.self.core.cpl = 0#2)
    (h : decode (.msrR s.self.core.ecx) = .ok i) : execX86Rdmsr s = mapNext loadResults (exec i s) := by
  rw [execX86Rdmsr, if_neg (not_not.2 hcpl), show decodeRdmsr s.self.core.ecx = .ok i from h,
    ← rdmsrMeaning_of_decode h]

theorem execX86Wrmsr_of_decode {s : State} {i : Instr} (hcpl : s.self.core.cpl = 0#2)
    (h : decode (.msrW s.self.core.ecx (s.self.core.edx ++ s.self.core.eax)) = .ok i) : execX86Wrmsr s = exec i s := by
  rw [execX86Wrmsr, if_neg (not_not.2 hcpl),
    show decodeWrmsr s.self.core.ecx (s.self.core.edx ++ s.self.core.eax) = .ok i from h, ← wrmsrMeaning_of_decode h]

theorem execX86Rdmsr_of_outside {s : State} (hcpl : s.self.core.cpl = 0#2)
    (h : decodeRdmsr s.self.core.ecx = .error .msrOutsideSpec) :
    execX86Rdmsr s = mapNext loadResults (rdmsrOutside s.self.core.ecx s) := by
  rw [execX86Rdmsr, if_neg (not_not.2 hcpl), h]

theorem execX86Wrmsr_of_outside {s : State} (hcpl : s.self.core.cpl = 0#2)
    (h : decodeWrmsr s.self.core.ecx (s.self.core.edx ++ s.self.core.eax) = .error .msrOutsideSpec) :
    execX86Wrmsr s = wrmsrOutside s.self.core.ecx (s.self.core.edx ++ s.self.core.eax) s := by
  rw [execX86Wrmsr, if_neg (not_not.2 hcpl), h]

/-- The answer of a RDMSR: a data word, or the exception. -/
def AnswersRdmsr (t : State) : Prop :=
  (∃ val, t.self.core.answer = .value val) ∨ t.self.core.answer = .exception 13#8 0#32

theorem rdmsrThen_answers (val : W64) (after s : State) : ∃ t, rdmsrThen val after s = .next t ∧ AnswersRdmsr t := by
  refine ⟨_, rfl, ?_⟩
  split
  · exact .inl ⟨val, rfl⟩
  · exact .inr rfl

theorem exec_rdmsr_answers {addr : W32} {i : Instr} (h : decode (.msrR addr) = .ok i) (s : State) :
    ∃ t, exec i s = .next t ∧ AnswersRdmsr t := by
  obtain ⟨-, rfl⟩ | ⟨off, -, rfl⟩ := decode_msrR_cases h
  · refine ⟨_, rfl, ?_⟩
    split
    · exact .inl ⟨_, rfl⟩
    · exact .inr rfl
  · obtain hgp | ⟨n, val, -, hread⟩ := exec_of_rdmsrOf (rdmsrAt_isRowOf off).2 s
    · exact ⟨_, hgp, .inr rfl⟩
    · rw [hread]
      exact rdmsrThen_answers val _ s

theorem loadResults_of_value {t : State} {val : W64} (h : t.self.core.answer = .value val) :
    loadResults t =
      withSelf
        { t.self with core := { t.self.core with eax := val.setWidth 32, edx := (val >>> 32).setWidth 32 } } t := by
  rw [loadResults, h, ← lowHalf_eq_setWidth, ← highHalf_eq_shift]
  rfl

theorem loadResults_of_exception {t : State} {vector : Byte} {code : W32}
    (h : t.self.core.answer = .exception vector code) :
    loadResults t = t := by
  rw [loadResults, h]

theorem loadResults_of_cpuid {t : State} {a b c d : W32} (h : t.self.core.answer = .cpuid a b c d) :
    loadResults t = withSelf { t.self with core := { t.self.core with eax := a, ebx := b, ecx := c, edx := d } } t := by
  rw [loadResults, h]
  rfl

/-- A WRMSR of 800H to BFFH but the ICR's completes. -/
theorem exec_wrmsr_completes {i : Instr} {off : BitVec 10} {val : W64} (hi : encode i = wrmsrOf off val)
    (hicr : off ≠ 0x030#10) (s : State) : ∃ t, exec i s = .next t := by
  obtain hgp | ⟨rsvd, f, -, -, hwrite⟩ | ⟨hoff, -⟩ := exec_of_wrmsrOf hi s
  · exact ⟨_, hgp⟩
  · exact ⟨_, hwrite⟩
  · exact absurd hoff hicr

theorem decodes_of_map {addr : W32} (h : addr = 0x1B#32 ∨ inMsrRange addr) : ∃ i, decode (.msrR addr) = .ok i := by
  rcases h with rfl | hrange
  · exact ⟨_, rfl⟩
  · exact ⟨_, decode_msrR_of_range hrange⟩

theorem exec_cpuid {leaf sub : W32} (h : leaf = 0x01#32 ∨ leaf = 0x0B#32) (s : State) :
    ∃ i t a b c d, decode (.cpuid leaf sub) = .ok i ∧ cpuidMeaning i s = exec i s ∧ exec i s = .next t
      ∧ t.self.core.answer = .cpuid a b c d := by
  rcases h with rfl | rfl
  · exact ⟨_, _, _, _, _, _, rfl, rfl, rfl, rfl⟩
  · exact ⟨_, _, _, _, _, _, rfl, rfl, rfl, rfl⟩

theorem cpuidOutside_eq (s : State) :
    ∃ a b c d, cpuidOutside s = .next ((s.drew 4).answered (.cpuid a b c d)) :=
  ⟨_, _, _, _, rfl⟩

/-- Settles O53: each encoding runs the row that its registers select, then loads the results. -/
theorem coreInstructionsDoWhatTheirRowsDo : Obligations.CoreInstructionsDoWhatTheirRowsDo := by
  intro s
  refine ⟨fun hcpl hmap => ?_, fun hcpl hrange hicr => ?_, fun hcpl i hi => execX86Wrmsr_of_decode hcpl hi,
    fun hleaf => ?_, fun hcpl hbase hrange => ⟨?_, ?_⟩, fun h1 hB => ?_⟩
  case refine_1 =>
    obtain ⟨i, hi⟩ := decodes_of_map hmap
    obtain ⟨t, ht, hanswer⟩ := exec_rdmsr_answers hi s
    have hx86 : exec .x86Rdmsr s = .next (loadResults t) := by
      change execX86Rdmsr s = _
      rw [execX86Rdmsr_of_decode hcpl hi, ht]
      rfl
    refine ⟨i, t, hi, ht, fun val hval => ?_, fun hnone => ?_⟩
    · rw [hx86, loadResults_of_value hval]
    · obtain ⟨val, hval⟩ | hgp := hanswer
      · exact absurd hval (hnone val)
      · rw [hx86, loadResults_of_exception hgp]
  case refine_2 =>
    have hi := decode_msrW_of_range hrange (s.self.core.edx ++ s.self.core.eax)
    obtain ⟨t, ht⟩ := exec_wrmsr_completes (encode_write_of_range hrange hi) (offset_ne_icr hrange hicr) s
    exact ⟨_, t, hi, ht, (execX86Wrmsr_of_decode hcpl hi).trans ht⟩
  case refine_3 =>
    obtain ⟨i, t, a, b, c, d, hi, hmeaning, ht, hanswer⟩ := exec_cpuid (sub := s.self.core.ecx) hleaf s
    refine ⟨i, t, a, b, c, d, hi, ht, hanswer, ?_⟩
    change execX86Cpuid s = _
    rw [execX86Cpuid, show decodeCpuid s.self.core.eax s.self.core.ecx = .ok i from hi]
    change mapNext loadResults (cpuidMeaning i s) = _
    rw [hmeaning, ht, ← loadResults_of_cpuid hanswer]
    rfl
  case refine_4 =>
    change execX86Rdmsr s = _ ∨ ∃ val : W64, execX86Rdmsr s = _
    rw [execX86Rdmsr_of_outside hcpl (decodeRdmsr_outside hbase hrange)]
    obtain hgp | ⟨-, hval⟩ := rdmsrOutside_cases s.self.core.ecx s
    · rw [hgp]
      exact .inl rfl
    · rw [hval]
      refine .inr ⟨s.freeWord, congrArg Host.Outcome.next ?_⟩
      exact loadResults_of_value rfl
  case refine_5 =>
    change execX86Wrmsr s = _ ∨ execX86Wrmsr s = _
    rw [execX86Wrmsr_of_outside hcpl (decodeWrmsr_outside hbase hrange _)]
    exact (wrmsrOutside_cases _ _ s).imp_right And.right
  case refine_6 =>
    obtain ⟨a, b, c, d, houtside⟩ := cpuidOutside_eq s
    refine ⟨a, b, c, d, ?_⟩
    change execX86Cpuid s = _
    rw [execX86Cpuid, decodeCpuid_outside h1 hB]
    change mapNext loadResults (cpuidOutside s) = _
    rw [houtside]
    exact congrArg Host.Outcome.next (loadResults_of_cpuid rfl)

end Sys2Proof.Machine
end

section
/-! PROOFS. O16, O17, O18: what every operation that completes leaves as its next state. There are six kinds of it
(`Completes`), and the statements about all operations are facts about the six. -/

namespace Sys2Proof.Machine

open Sys2Proof.Statements

/-! ### The next states of an operation -/

/-- `t` is a state that an operation on `s` completes in; the proposition `base` says that it may have written
IA32_APIC_BASE. -/
inductive Completes (s : State) (base : Prop) : State → Prop
  | gp : Completes s base (raiseGP s)
  | answered (n : Nat) {a : Answer} (ha : ∀ v c, a ≠ .exception v c) : Completes s base ((s.drew n).answered a)
  | loaded (n : Nat) {a : Answer} (ha : ∀ v c, a ≠ .exception v c) :
      Completes s base (loadResults ((s.drew n).answered a))
  | illegalLoad : Completes s base (illegalLoad s)
  | effect {t : State} (h : Effect s t) : Completes s base (t.answered .done)
  | baseWrite (hbase : base) {val : W64} (hbits : val &&& rsvdApicBase s.self.hw = 0#64)
      (hlegal : baseWriteFaults val s.self = false) : Completes s base ((writeBase val s).answered .done)

theorem value_completes (n : Nat) (val : W64) (s : State) (base : Prop) :
    Completes s base ((s.drew n).answered (.value val)) :=
  .answered n nofun

theorem rdmsrThen_completes {val : W64} {n : Nat} {s t : State} {base : Prop}
    (h : rdmsrThen val (s.drew n) s = .next t) : Completes s base t := by
  obtain ⟨-, rfl⟩ | ⟨-, rfl⟩ := rdmsrThen_cases h
  · exact value_completes n val s base
  · exact .gp

theorem wrmsr_completes {rsvd val : W64} {f : State → State} {s t : State} {base : Prop}
    (heffect : val &&& rsvd = 0#64 → Effect s (f s)) (h : wrmsr rsvd val f s = .next t) : Completes s base t := by
  obtain ⟨-, hval, rfl⟩ | ⟨-, rfl⟩ := wrmsr_cases h
  · exact .effect (heffect hval)
  · exact .gp

theorem execWrmsrIcr_completes {val : W64} {s t : State} {base : Prop} (h : execWrmsrIcr val s = .next t) :
    Completes s base t := by
  unfold execWrmsrIcr at h
  split at h
  · cases h
  · exact wrmsr_completes .icr h

theorem store_completes {page : PageNo} {f : State → State} {s t : State} {base : Prop}
    (heffect : s.self.mode = .xapic → Effect s (f s)) (h : store page f s = .next t) : Completes s base t := by
  obtain ⟨hmode, -, rfl⟩ := mmio_cases h
  exact .effect (heffect hmode)

theorem execStoreIcrLo_completes {page : PageNo} {val : W32} {s t : State} {base : Prop}
    (h : execStoreIcrLo page val s = .next t) : Completes s base t := by
  unfold execStoreIcrLo at h
  split at h
  · cases h
  · exact store_completes (fun _ => .icrLow val) h

theorem execRdmsrIa32ApicBase_completes {s t : State} {base : Prop} (h : execRdmsrIa32ApicBase s = .next t) :
    Completes s base t := by
  unfold execRdmsrIa32ApicBase at h
  split at h <;> cases h
  · exact value_completes 0 _ s base
  · exact .gp

theorem execWrmsrIa32ApicBase_completes {val : W64} {s t : State} {base : Prop} (hbase : base)
    (h : execWrmsrIa32ApicBase val s = .next t) : Completes s base t := by
  unfold execWrmsrIa32ApicBase at h
  split at h
  · cases h
    exact .gp
  split at h
  · cases h
    exact .gp
  rename_i hbits
  split at h
  · cases h
    exact .gp
  split at h
  · cases h
  split at h
  · cases h
    exact .gp
  rename_i hlegal
  split at h
  · cases h
  · cases h
    exact .baseWrite hbase (not_not.1 hbits) (Bool.eq_false_iff.2 hlegal)

/-! ### The byte encodings -/

theorem rdmsrOutside_completes {addr : W32} {s t : State} {base : Prop} (h : rdmsrOutside addr s = .next t) :
    Completes s base t := by
  obtain hgp | ⟨-, hval⟩ := rdmsrOutside_cases addr s
  · cases hgp.symm.trans h
    exact .gp
  · cases hval.symm.trans h
    exact value_completes 1 _ s base

theorem wrmsrOutside_completes {addr : W32} {val : W64} {s t : State} {base : Prop}
    (h : wrmsrOutside addr val s = .next t) : Completes s base t := by
  obtain hgp | ⟨-, hdone⟩ := wrmsrOutside_cases addr val s
  · cases hgp.symm.trans h
    exact .gp
  · cases hdone.symm.trans h
    exact .answered 0 nofun

theorem cpuidOutside_completes {s t : State} {base : Prop} (h : cpuidOutside s = .next t) : Completes s base t := by
  cases h
  exact .answered 4 nofun

/-- The results of a completed operation that has only answered are loaded: the one more kind of next state. -/
theorem loadResults_completes {s t : State} {base : Prop}
    (h : t = raiseGP s ∨ ∃ n a, (∀ v c, a ≠ .exception v c) ∧ t = (s.drew n).answered a) :
    Completes s base (loadResults t) := by
  obtain rfl | ⟨n, a, ha, rfl⟩ := h
  · exact .gp
  · exact .loaded n ha

theorem exec_rdmsr_next {addr : W32} {i : Instr} (h : decode (.msrR addr) = .ok i) (s : State) :
    ∃ t, exec i s = .next t ∧ (t = raiseGP s ∨ ∃ n a, (∀ v c, a ≠ .exception v c) ∧ t = (s.drew n).answered a) := by
  obtain ⟨-, rfl⟩ | ⟨off, -, rfl⟩ := decode_msrR_cases h
  · refine ⟨_, rfl, ?_⟩
    split
    · exact .inr ⟨0, .value s.self.base.word, nofun, rfl⟩
    · exact .inl rfl
  · obtain hgp | ⟨n, val, -, hread⟩ := exec_of_rdmsrOf (rdmsrAt_isRowOf off).2 s
    · exact ⟨_, hgp, .inl rfl⟩
    · refine ⟨_, hread, ?_⟩
      split
      · exact .inr ⟨n, .value val, nofun, rfl⟩
      · exact .inl rfl

theorem rdmsrOutside_next (addr : W32) (s : State) :
    ∃ t, rdmsrOutside addr s = .next t
      ∧ (t = raiseGP s ∨ ∃ n a, (∀ v c, a ≠ .exception v c) ∧ t = (s.drew n).answered a) := by
  obtain hgp | ⟨-, hval⟩ := rdmsrOutside_cases addr s
  · exact ⟨_, hgp, .inl rfl⟩
  · exact ⟨_, hval, .inr ⟨1, .value s.freeWord, nofun, rfl⟩⟩

theorem execX86Rdmsr_completes {s t : State} {base : Prop} (h : execX86Rdmsr s = .next t) : Completes s base t := by
  by_cases hcpl : s.self.core.cpl = 0#2
  · cases hi : decodeRdmsr s.self.core.ecx with
    | ok i =>
      obtain ⟨u, hu, hnext⟩ := exec_rdmsr_next (addr := s.self.core.ecx) hi s
      rw [execX86Rdmsr_of_decode hcpl hi, hu] at h
      cases h
      exact loadResults_completes hnext
    | error e =>
      obtain ⟨u, hu, hnext⟩ := rdmsrOutside_next s.self.core.ecx s
      rw [execX86Rdmsr, if_neg (not_not.2 hcpl), hi] at h
      change mapNext loadResults (rdmsrOutside s.self.core.ecx s) = .next t at h
      rw [hu] at h
      cases h
      exact loadResults_completes hnext
  · rw [execX86Rdmsr, if_pos hcpl] at h
    cases h
    exact .gp

theorem execX86Cpuid_completes {s t : State} {base : Prop} (h : execX86Cpuid s = .next t) : Completes s base t := by
  unfold execX86Cpuid at h
  split at h
  · rename_i i hi
    unfold decodeCpuid at hi
    split at hi
    · cases hi
      cases h
      exact .loaded 4 nofun
    split at hi
    · cases hi
      cases h
      exact .loaded 0 nofun
    · cases hi
  · cases h
    exact .loaded 4 nofun

/-- The operation writes IA32_APIC_BASE (40_enable_and_mode.md R142). -/
def WritesBase (i : Instr) (s : State) : Prop :=
  (∃ val, i = .wrmsrIa32ApicBase val) ∨ (i = .x86Wrmsr ∧ s.self.core.ecx = 0x1B#32)

theorem execX86Wrmsr_completes {s t : State} (h : execX86Wrmsr s = .next t) :
    Completes s (WritesBase .x86Wrmsr s) t := by
  by_cases hcpl : s.self.core.cpl = 0#2
  · cases hi : decodeWrmsr s.self.core.ecx (s.self.core.edx ++ s.self.core.eax) with
    | ok i =>
      rw [execX86Wrmsr_of_decode hcpl hi] at h
      obtain ⟨hecx, rfl⟩ | ⟨off, -, rfl⟩ := decode_msrW_cases hi
      · exact execWrmsrIa32ApicBase_completes (.inr ⟨rfl, hecx⟩) h
      · obtain hgp | ⟨rsvd, f, -, heffect, hwrite⟩ | ⟨-, hicr⟩ := exec_of_wrmsrOf (wrmsrAt_isRowOf _ off).2 s
        · cases hgp.symm.trans h
          exact .gp
        · exact wrmsr_completes heffect (hwrite.symm.trans h)
        · exact execWrmsrIcr_completes (hicr.symm.trans h)
    | error e =>
      rw [execX86Wrmsr, if_neg (not_not.2 hcpl), hi] at h
      exact wrmsrOutside_completes h
  · rw [execX86Wrmsr, if_pos hcpl] at h
    cases h
    exact .gp

/-- Every operation that completes does so in one of the six kinds of next state. -/
theorem exec_completes {i : Instr} {s t : State} (h : exec i s = .next t) : Completes s (WritesBase i s) t := by
  have hmeaning := exec_meaning i s
  rw [h] at hmeaning
  generalize ho : (Host.Outcome.next t : Outcome) = o at hmeaning
  cases hmeaning with
  | baseRead => exact execRdmsrIa32ApicBase_completes ho.symm
  | baseWrite val => exact execWrmsrIa32ApicBase_completes (.inl ⟨val, rfl⟩) ho.symm
  | readGp _ =>
    cases ho
    exact .gp
  | writeGp _ =>
    cases ho
    exact .gp
  | read _ _ n => exact rdmsrThen_completes ho.symm
  | write _ _ heffect => exact wrmsr_completes heffect ho.symm
  | icr val => exact execWrmsrIcr_completes ho.symm
  | load _ n hf =>
    obtain ⟨-, -, rfl⟩ := mmio_cases ho.symm
    rw [hf]
    exact .answered n nofun
  | illegalLoad _ _ =>
    obtain ⟨-, -, rfl⟩ := mmio_cases ho.symm
    exact .illegalLoad
  | store _ heffect => exact store_completes heffect ho.symm
  | icrLow page val => exact execStoreIcrLo_completes ho.symm
  | cpuid _ n a b c d =>
    cases ho
    exact .answered n nofun
  | x86Rdmsr => exact execX86Rdmsr_completes ho.symm
  | x86Wrmsr => exact execX86Wrmsr_completes ho.symm
  | x86Cpuid => exact execX86Cpuid_completes ho.symm

/-! ### Exceptions -/

theorem loadResults_answer (s : State) : (loadResults s).self.core.answer = s.self.core.answer := by
  cases h : s.self.core.answer <;> rw [loadResults, h] <;> exact h

/-- Settles O16: of the six kinds of next state one alone holds an exception. -/
theorem everyGpIsTheSameAndChangesNothing : Obligations.EveryGpIsTheSameAndChangesNothing := by
  intro i s t vector code ht hanswer
  cases exec_completes ht with
  | gp => rfl
  | answered n ha => exact absurd hanswer (ha vector code)
  | loaded n ha => exact absurd ((loadResults_answer _).symm.trans hanswer) (ha vector code)
  | illegalLoad => cases hanswer
  | effect _ => cases hanswer
  | baseWrite _ _ _ => cases hanswer

/-! ### The mode MSR -/

theorem Effect.sameModes {s t : State} (h : Effect s t) : SameModes s t := by
  cases h with
  | eoi => exact eoi_sameModes s
  | lvt x v => exact storeLvt_sameModes x v s
  | icr _ => exact writeIcr_sameModes _ s
  | icrLow val => exact writeIcrLow_sameModes val s
  | selfIpi vec => exact (sendCommand_kept _ s).sameModes
  | illegal => exact (logError_kept 7 s).sameModes
  | tpr _ | svr _ | esr | icrHigh _ | timerIcr _ | timerDcr _ | xapicId _ _ | ldr _ _ | dfr _ => exact ⟨rfl, rfl⟩

theorem illegalLoad_kept (s : State) : Kept s ((logError 7 s).drew 1) := (logError_kept 7 s).trans (drew_kept 1 _)

/-- Settles O17: of the six kinds of next state one alone may have another IA32_APIC_BASE. -/
theorem onlyBaseWritesChangeTheMode : Obligations.OnlyBaseWritesChangeTheMode := by
  intro i s t ht hchanged
  cases exec_completes ht with
  | baseWrite hbase _ _ => exact hbase
  | gp => exact absurd rfl hchanged
  | answered n _ => exact absurd rfl hchanged
  | loaded n _ => exact absurd (loadResults_sameModes _).base hchanged
  | illegalLoad => exact absurd (illegalLoad_kept s).base hchanged
  | effect h => exact absurd h.sameModes.base hchanged

/-! ### The rest of the platform -/

/-- From `s` to `t` nothing outside the acting unit has changed, nor its parameters, but for messages added. -/
structure StaysInUnit (s t : State) : Prop where
  others : t.others = s.others
  schedule : t.schedule = s.schedule
  hw : t.self.hw = s.self.hw
  inflight : ∃ sent, t.inflight = s.inflight ++ sent

theorem Kept.staysInUnit {s t : State} (h : Kept s t) : StaysInUnit s t := ⟨h.others, h.schedule, h.hw, h.inflight⟩

theorem StaysInUnit.trans {s t u : State} (h : StaysInUnit s t) (k : StaysInUnit t u) : StaysInUnit s u where
  others := k.others.trans h.others
  schedule := k.schedule.trans h.schedule
  hw := k.hw.trans h.hw
  inflight := by
    obtain ⟨a, ha⟩ := h.inflight
    obtain ⟨b, hb⟩ := k.inflight
    exact ⟨a ++ b, by rw [hb, ha, List.append_assoc]⟩

/-- A change of the acting unit alone, with free values used or none. -/
theorem staysInUnit_of_self {s t : State} (hothers : t.others = s.others) (hschedule : t.schedule = s.schedule)
    (hinflight : t.inflight = s.inflight) (hhw : t.self.hw = s.self.hw) : StaysInUnit s t :=
  ⟨hothers, hschedule, hhw, [], by rw [hinflight, List.append_nil]⟩

theorem StaysInUnit.answered {s t : State} (h : StaysInUnit s t) (a : Answer) : StaysInUnit s (t.answered a) :=
  h.trans (staysInUnit_of_self rfl rfl rfl rfl)

theorem eoi_staysInUnit (s : State) : StaysInUnit s (eoi s) := by
  unfold eoi
  dsimp only
  split <;> exact staysInUnit_of_self rfl rfl rfl rfl

theorem storeLvt_staysInUnit (x : LvtId) (v : W32) (s : State) : StaysInUnit s (storeLvt x v s) :=
  staysInUnit_of_self rfl rfl rfl (Apic.withLvt_hw _ _ _)

/-- Once the ICR is stored, its write rule logs or sends. -/
theorem writeIcr_cases (val : W64) (s : State) :
    writeIcr val s = logError 4 (storingIcr val s)
      ∨ writeIcr val s = sendCommand (icrCommand val) (storingIcr val s) := by
  by_cases hlowest : (icrCommand val).del = 1#3
  · exact .inl (writeIcr_of_lowest hlowest s)
  · exact .inr (writeIcr_of_not_lowest hlowest s)

theorem writeIcrLow_cases (val : W32) (s : State) :
    writeIcrLow val s = logError 4 ((storedIcrLow val s).drew 1)
      ∨ writeIcrLow val s = sendIpi (icrCommandXapic val s.self) ((storedIcrLow val s).drew 1)
      ∨ writeIcrLow val s = sendCommand (icrCommandXapic val s.self) (storedIcrLow val s) := by
  by_cases hlowest : (icrCommandXapic val s.self).del = 1#3
  · obtain hsend | hlog := writeIcrLow_of_lowest hlowest
    · exact .inr (.inl hsend)
    · exact .inl hlog
  · exact .inr (.inr (writeIcrLow_of_not_lowest hlowest))

theorem writeIcr_kept (val : W64) (s : State) : Kept (storingIcr val s) (writeIcr val s) := by
  rcases writeIcr_cases val s with h | h <;> rw [h]
  · exact logError_kept 4 _
  · exact sendCommand_kept _ _

theorem writeIcrLow_kept (val : W32) (s : State) : Kept (storedIcrLow val s) (writeIcrLow val s) := by
  have hdrew := drew_kept 1 (storedIcrLow val s)
  rcases writeIcrLow_cases val s with h | h | h <;> rw [h]
  · exact hdrew.trans (logError_kept 4 _)
  · exact hdrew.trans (sendIpi_kept _ _)
  · exact sendCommand_kept _ _

theorem writeIcr_staysInUnit (val : W64) (s : State) : StaysInUnit s (writeIcr val s) :=
  (staysInUnit_of_self (s := s) (t := storingIcr val s) rfl rfl rfl rfl).trans (writeIcr_kept val s).staysInUnit

theorem writeIcrLow_staysInUnit (val : W32) (s : State) : StaysInUnit s (writeIcrLow val s) :=
  (staysInUnit_of_self (s := s) (t := storedIcrLow val s) rfl rfl rfl rfl).trans (writeIcrLow_kept val s).staysInUnit

theorem Effect.staysInUnit {s t : State} (h : Effect s t) : StaysInUnit s t := by
  cases h with
  | eoi => exact eoi_staysInUnit s
  | lvt x v => exact storeLvt_staysInUnit x v s
  | icr _ => exact writeIcr_staysInUnit _ s
  | icrLow val => exact writeIcrLow_staysInUnit val s
  | selfIpi vec => exact (sendCommand_kept _ s).staysInUnit
  | illegal => exact (logError_kept 7 s).staysInUnit
  | tpr _ | svr _ | esr | icrHigh _ | timerIcr _ | timerDcr _ | xapicId _ _ | ldr _ _ | dfr _ =>
    exact staysInUnit_of_self rfl rfl rfl rfl

theorem writeBase_staysInUnit (val : W64) (s : State) : StaysInUnit s (writeBase val s) := by
  unfold writeBase transition
  split
  · exact staysInUnit_of_self rfl rfl rfl rfl
  · split <;> exact staysInUnit_of_self rfl rfl rfl rfl

theorem loadResults_staysInUnit (s : State) : StaysInUnit s (loadResults s) := by
  unfold loadResults
  split <;> exact staysInUnit_of_self rfl rfl rfl rfl

theorem Completes.staysInUnit {s t : State} {base : Prop} (h : Completes s base t) : StaysInUnit s t := by
  cases h with
  | gp => exact staysInUnit_of_self rfl rfl rfl rfl
  | answered n _ => exact staysInUnit_of_self rfl rfl rfl rfl
  | @loaded n a _ =>
    have hanswered : StaysInUnit s ((s.drew n).answered a) := staysInUnit_of_self rfl rfl rfl rfl
    exact hanswered.trans (loadResults_staysInUnit _)
  | illegalLoad => exact (illegalLoad_kept s).staysInUnit.answered _
  | effect h => exact h.staysInUnit.answered _
  | baseWrite _ _ _ => exact (writeBase_staysInUnit _ s).answered _

/-- Settles O18: each of the six kinds of next state stays in the unit. -/
theorem operationsTouchOnlyTheOwnUnit : Obligations.OperationsTouchOnlyTheOwnUnit := by
  intro i s t ht
  obtain ⟨hothers, hschedule, hhw, hinflight⟩ := (exec_completes ht).staysInUnit
  exact ⟨hothers, hschedule, hhw, hinflight⟩

end Sys2Proof.Machine
end

section
/-! PROOFS. O20: the platform's invariant. Most of what a step does to a unit is `Sound`: it keeps the frame the
invariant speaks of, no low vector comes, no reserved bit is set; `Steady` keeps the timer as well. What is left is
proved of its own: the mode transitions, RESET and INIT, the timer's registers and its tick, the LDR and the ID of xAPIC
mode, and the exchange of the acting unit. -/

namespace Sys2Proof.Machine

open Sys2Proof.Statements

/-! ### Vectors below 16 -/

theorem noLowVector_iff {b : Bits256} : noLowVector b ↔ ∀ i < 16, b.getLsbD i = false := by
  have hbit : ∀ i < 16, (b.extractLsb' 0 16).getLsbD i = b.getLsbD i := fun i hi => by
    rw [BitVec.getLsbD_extractLsb', decide_eq_true hi, Bool.true_and, Nat.zero_add]
  refine ⟨fun h i hi => ?_, fun h => BitVec.eq_of_getLsbD_eq fun i hi => ?_⟩
  · rw [← hbit i hi, h, BitVec.getLsbD_zero]
  · rw [hbit i hi, h i hi, BitVec.getLsbD_zero]

theorem noLowVector_zero : noLowVector 0#256 := rfl

theorem noLowVector_and {b : Bits256} (h : noLowVector b) (mask : Bits256) : noLowVector (b &&& mask) :=
  noLowVector_iff.2 fun i hi => by rw [BitVec.getLsbD_and, noLowVector_iff.1 h i hi, Bool.false_and]

theorem noLowVector_or {b c : Bits256} (hb : noLowVector b) (hc : noLowVector c) : noLowVector (b ||| c) :=
  noLowVector_iff.2 fun i hi => by
    rw [BitVec.getLsbD_or, noLowVector_iff.1 hb i hi, noLowVector_iff.1 hc i hi, Bool.false_or]

theorem noLowVector_vecBit {v : Byte} (h : 16 ≤ v.toNat) : noLowVector (vecBit v) :=
  noLowVector_iff.2 fun i hi => by
    rw [vecBit, BitVec.getLsbD_shiftLeft, decide_eq_true (by omega : i < v.toNat), Bool.not_true, Bool.and_false,
      Bool.false_and]

theorem highest_ge_of_noLowVector {b : Bits256} {v : Byte} (hb : noLowVector b) (h : highest b = some v) :
    16 ≤ v.toNat := by
  by_contra hlow
  have hbit := noLowVector_iff.1 hb v.toNat (by omega)
  rw [(highest_eq_some.1 h).1] at hbit
  cases hbit

/-! ### Error bits -/

/-- Nothing but existing error bits is pending (10_state.md R72). -/
abbrev errorBits (v : W32) : Prop := v &&& ~~~0x000000FF#32 = 0#32

theorem errorBits_or {v w : W32} (hv : errorBits v) (hw : errorBits w) : errorBits (v ||| w) := by
  rw [errorBits, BitVec.and_comm, BitVec.and_or_distrib_left, BitVec.and_comm, hv, BitVec.and_comm, hw]
  rfl

theorem errorBits_shift : ∀ b < 8, errorBits (1#32 <<< b) := by decide

/-! ### The invariant of a unit, part by part -/

theorem ModeInv.congr {u v : Apic} (h : ModeInv u) (hhw : v.hw = u.hw) (hbase : v.base = u.base) : ModeInv v where
  mode := by rw [Apic.mode_congr hbase]; exact h.mode
  bsp := by rw [hbase, hhw]; exact h.bsp
  supported := by rw [hbase, hhw]; exact h.supported
  page := by rw [hbase, hhw]; exact h.page

theorem VectorInv.congr {u v : Apic} (h : VectorInv u) (hmode : v.mode = .disabled → u.mode = .disabled)
    (hirr : v.irr = u.irr) (hisr : v.isr = u.isr) (htmr : v.tmr = u.tmr) : VectorInv v where
  irr := hirr ▸ h.irr
  isr := hisr ▸ h.isr
  tmr := htmr ▸ h.tmr
  disabled hoff := by rw [hirr, hisr, htmr]; exact h.disabled (hmode hoff)

theorem IdInv.congr {u v : Apic} (h : IdInv u) (hhw : v.hw = u.hw) (hmode : v.mode = .x2apic → u.mode = .x2apic)
    (hid : v.xapicId = u.xapicId) (hldr : v.ldr = u.ldr) : IdInv v where
  ldr hx := by rw [hldr, Apic.x2apicId, hhw]; exact h.ldr (hmode hx)
  xapicId hx := by rw [hid, hhw]; exact h.xapicId (hmode hx)

theorem TimerInv.congr {u v : Apic} (h : TimerInv u) (hicr : v.timerIcr = u.timerIcr) (hcount : v.count = u.count)
    (hrunning : v.running = u.running) : TimerInv v where
  bounded := by rw [hcount, hicr]; exact h.bounded
  running := by rw [hrunning, hcount]; exact h.running

/-- What the invariant says of the interrupt logic's quantities: nothing for another logic than the default one. -/
abbrev vectorsHold (u : Apic) : Prop := u.hw.logic = .standard → VectorInv u

/-! ### Sound and steady changes -/

/-- From `s` to `t` the acting unit keeps its invariant but for the timer's part. -/
structure Sound (s t : State) : Prop where
  others : t.others = s.others
  hw : t.self.hw = s.self.hw
  base : t.self.base = s.self.base
  xapicId : t.self.xapicId = s.self.xapicId
  ldr : t.self.ldr = s.self.ldr
  vectors : vectorsHold s.self → vectorsHold t.self
  reserved : ReservedInv s.self → ReservedInv t.self

/-- From `s` to `t` the acting unit keeps its invariant, and its timer does not move. -/
structure Steady (s t : State) : Prop extends Sound s t where
  timerIcr : t.self.timerIcr = s.self.timerIcr
  count : t.self.count = s.self.count
  running : t.self.running = s.self.running

theorem Sound.trans {s t u : State} (h : Sound s t) (k : Sound t u) : Sound s u where
  others := k.others.trans h.others
  hw := k.hw.trans h.hw
  base := k.base.trans h.base
  xapicId := k.xapicId.trans h.xapicId
  ldr := k.ldr.trans h.ldr
  vectors hv := k.vectors (h.vectors hv)
  reserved hr := k.reserved (h.reserved hr)

theorem Steady.trans {s t u : State} (h : Steady s t) (k : Steady t u) : Steady s u where
  toSound := h.toSound.trans k.toSound
  timerIcr := k.timerIcr.trans h.timerIcr
  count := k.count.trans h.count
  running := k.running.trans h.running

theorem Sound.unitInv {s t : State} (h : Sound s t) (htimer : TimerInv t.self) (hs : UnitInv s.self) :
    UnitInv t.self where
  hw := by rw [h.hw]; exact hs.hw
  mode := hs.mode.congr h.hw h.base
  vectors := h.vectors hs.vectors
  ids := hs.ids.congr h.hw (fun hx => Apic.mode_congr h.base ▸ hx) h.xapicId h.ldr
  reserved := h.reserved hs.reserved
  timer := htimer

theorem Steady.unitInv {s t : State} (h : Steady s t) (hs : UnitInv s.self) : UnitInv t.self :=
  h.toSound.unitInv (hs.timer.congr h.timerIcr h.count h.running) hs

/-- A change of the core's port, of the record of what left the unit, of TPR or of the timer's fraction: the invariant
speaks of none. -/
theorem steady_of_port {s t : State} (hothers : t.others = s.others) {tpr : Byte} {core : Core} {out : List Output}
    {frac : Nat} (h : t.self = { s.self with tpr := tpr, core := core, out := out, frac := frac }) : Steady s t := by
  obtain ⟨u, others, inflight, draws, schedule⟩ := t
  subst h
  exact ⟨⟨hothers, rfl, rfl, rfl, rfl, fun hv hl => (hv hl).congr id rfl rfl rfl, fun hr => { hr with }⟩, rfl, rfl, rfl⟩

theorem Steady.refl (s : State) : Steady s s := steady_of_port rfl rfl

theorem answered_steady (a : Answer) (s : State) : Steady s (s.answered a) := steady_of_port rfl rfl

theorem drew_steady (n : Nat) (s : State) : Steady s (s.drew n) := steady_of_port rfl rfl

theorem emit_steady (o : Output) (s : State) : Steady s (s.emit o) := steady_of_port rfl rfl

theorem Steady.answered {s t : State} (h : Steady s t) (a : Answer) : Steady s (t.answered a) :=
  h.trans (answered_steady a t)

/-! ### The interrupt logic -/

/-- What the interrupt logic keeps is steady, where it brings no low vector and no unknown error. -/
theorem Kept.steady {s t : State} (h : Kept s t) (hvectors : vectorsHold s.self → vectorsHold t.self)
    (herrors : errorBits s.self.esrPending → errorBits t.self.esrPending) : Steady s t where
  others := h.others
  hw := h.hw
  base := h.base
  xapicId := h.xapicId
  ldr := h.ldr
  vectors := hvectors
  reserved hr := by
    refine ⟨?_, ?_, herrors hr.esrPending, ?_, ?_, ?_, fun x => ?_⟩
    · rw [h.svr, h.hw]
      exact hr.svr
    · rw [h.esr]
      exact hr.esr
    · rw [h.icr, h.hw]
      exact hr.icr
    · rw [h.timerDcr, h.hw]
      exact hr.timerDcr
    · rw [h.dfr]
      exact hr.dfr
    · rw [lvtHeld, h.lvtReg x]
      exact hr.lvt x
  timerIcr := h.timerIcr
  count := h.count
  running := h.running

theorem mode_ne_disabled {u : Apic} (h : u.base.en = true) : u.mode ≠ .disabled := by
  rw [Apic.mode, h]
  cases u.base.extd <;> exact nofun

theorem accept_vectors {vec : Byte} (hvec : 16 ≤ vec.toNat) (o : Origin) (level : Bool) (s : State)
    (hs : vectorsHold s.self) : vectorsHold (accept o vec level s).self := by
  intro hlogic
  have hkept := accept_kept o vec level s
  rw [hkept.hw] at hlogic
  have hinv := hs hlogic
  have hbit := noLowVector_vecBit hvec
  have hmode : (accept o vec level s).self.mode = s.self.mode := Apic.mode_congr hkept.base
  obtain ⟨hirr, htmr⟩ | ⟨hen, hirr, htmr⟩ := accept_bits hlogic o vec level
  · exact hinv.congr (fun h => hmode ▸ h) hirr (hkept.isr hlogic) htmr
  · refine ⟨hirr ▸ noLowVector_or hinv.irr hbit, hkept.isr hlogic ▸ hinv.isr, ?_, fun h => ?_⟩
    · rw [htmr]
      split
      · exact noLowVector_or hinv.tmr hbit
      · exact noLowVector_and hinv.tmr _
    · exact absurd (hmode ▸ h) (mode_ne_disabled hen)

theorem accept_steady {vec : Byte} (hvec : 16 ≤ vec.toNat) (o : Origin) (level : Bool) (s : State) :
    Steady s (accept o vec level s) :=
  (accept_kept o vec level s).steady (accept_vectors hvec o level s) fun h => accept_esrPending o vec level s ▸ h

theorem setErrorBit_steady {b : Nat} (hb : b < 8) (s : State) : Steady s (setErrorBit b s) :=
  (setErrorBit_kept b s).steady (fun hv hl => (hv hl).congr id rfl rfl rfl) fun h =>
    errorBits_or h (errorBits_shift b hb)

theorem errorInterrupt_steady (s : State) : Steady s (errorInterrupt s) := by
  unfold errorInterrupt
  dsimp only
  split
  case isTrue => exact setErrorBit_steady (by decide) s
  case isFalse hvec => exact accept_steady (by omega) _ _ s

theorem logError_steady {b : Nat} (hb : b < 8) (s : State) : Steady s (logError b s) := by
  have hset := setErrorBit_steady hb s
  rcases logError_cases b s with h | h | ⟨-, h⟩ | ⟨-, h⟩ <;> rw [h]
  · exact hset
  · exact hset.trans (drew_steady 1 _)
  · exact hset.trans (errorInterrupt_steady _)
  · exact (hset.trans (drew_steady 1 _)).trans (errorInterrupt_steady _)

theorem arrive_steady (o : Origin) (vec : Byte) (level : Bool) (s : State) : Steady s (arrive o vec level s) := by
  unfold arrive
  split
  case isTrue => exact logError_steady (by decide) s
  case isFalse hvec => exact accept_steady (by omega) o level s

theorem sendIpi_steady (c : Command) (s : State) : Steady s (sendIpi c s) := steady_of_port rfl rfl

theorem sendCommand_steady (c : Command) (s : State) : Steady s (sendCommand c s) := by
  unfold sendCommand
  split
  · have hlogged : Steady s ((logError 5 s).drew 1) := (logError_steady (by decide) s).trans (drew_steady 1 _)
    rcases sendIllegalVector_cases c s with h | h <;> rw [h]
    · exact hlogged
    · exact hlogged.trans (sendIpi_steady c _)
  · exact sendIpi_steady c s

theorem fireLvt_steady (x : LvtId) (s : State) : Steady s (fireLvt x s) := by
  unfold fireLvt
  dsimp only
  split
  · exact Steady.refl s
  split
  · exact arrive_steady _ _ _ s
  · exact emit_steady _ s

/-! ### Taking an interrupt and its end -/

theorem offered_ne_disabled {u : Apic} (hlogic : u.hw.logic = .standard) (hu : VectorInv u) {v : Byte}
    (h : offered u = some v) : 16 ≤ v.toNat ∧ u.mode ≠ .disabled := by
  have hhighest := ((offered_standard hlogic).1 h).1
  refine ⟨highest_ge_of_noLowVector hu.irr hhighest, fun hoff => ?_⟩
  rw [(hu.disabled hoff).1] at hhighest
  cases hhighest

theorem dispatch_vectors {s : State} {v : Byte} (h : offered s.self = some v) (hs : vectorsHold s.self) :
    vectorsHold (dispatch v s).self := by
  intro hlogic
  replace hlogic : s.self.hw.logic = .standard := hlogic
  have hinv := hs hlogic
  obtain ⟨hlow, hmode⟩ := offered_ne_disabled hlogic hinv h
  rw [dispatch_standard hlogic]
  exact ⟨noLowVector_and hinv.irr _, noLowVector_or hinv.isr (noLowVector_vecBit hlow), hinv.tmr,
    fun hoff => absurd hoff hmode⟩

theorem dispatch_steady {s : State} {v : Byte} (h : offered s.self = some v) : Steady s (dispatch v s) where
  others := rfl
  hw := rfl
  base := rfl
  xapicId := rfl
  ldr := rfl
  vectors := dispatch_vectors h
  reserved hr :=
    { hr with lvt := fun x => (congrArg (· &&& ~~~(lvtWr x)) (Apic.unraise_lvt_reg _ v x)).trans (hr.lvt x) }
  timerIcr := rfl
  count := rfl
  running := rfl

theorem eoi_self (s : State) : ∃ r out, (eoi s).self = { s.self.withRegs r with out := out } := by
  unfold eoi
  dsimp only
  split <;> exact ⟨_, _, rfl⟩

theorem eoi_vectors (s : State) (hs : vectorsHold s.self) : vectorsHold (eoi s).self := by
  intro hlogic
  rw [(eoi_staysInUnit s).hw] at hlogic
  have hinv := hs hlogic
  rcases eoi_standard hlogic with ⟨-, h⟩ | ⟨v, hv, h⟩ <;> rw [h]
  · exact hinv
  · have hmode : s.self.mode ≠ .disabled := fun hoff => by
      rw [(hinv.disabled hoff).2.1] at hv
      cases hv
    dsimp only
    split <;> exact ⟨hinv.irr, noLowVector_and hinv.isr _, hinv.tmr, fun hoff => absurd hoff hmode⟩

theorem eoi_steady (s : State) : Steady s (eoi s) := by
  have hvectors := eoi_vectors s
  have hothers := (eoi_staysInUnit s).others
  obtain ⟨r, out, h⟩ := eoi_self s
  rw [h] at hvectors
  refine ⟨⟨hothers, ?_, ?_, ?_, ?_, ?_, ?_⟩, ?_, ?_, ?_⟩ <;> rw [h]
  case refine_5 => exact hvectors
  case refine_6 => exact fun hr => { hr with }
  all_goals rfl

/-! ### The write rules -/

/-- A change of registers of which the invariant says only what bits they may have. -/
theorem steady_of_masked {s t : State} (hothers : t.others = s.others)
    {svr esr esrPending timerDcr dfr : W32} {icr : W64}
    (h : t.self = { s.self with
      svr := svr, esr := esr, esrPending := esrPending, icr := icr, timerDcr := timerDcr, dfr := dfr })
    (hreserved : ReservedInv s.self → ReservedInv t.self) : Steady s t := by
  obtain ⟨u, others, inflight, draws, schedule⟩ := t
  subst h
  exact ⟨⟨hothers, rfl, rfl, rfl, rfl, fun hv hl => (hv hl).congr id rfl rfl rfl, hreserved⟩, rfl, rfl, rfl⟩

theorem storeLvt_lvtHeld {s : State} (h : ∀ y, lvtHeld y (s.self.lvt y)) (x : LvtId) (v : W32) (y : LvtId) :
    lvtHeld y ((storeLvt x v s).self.lvt y) := by
  rw [storeLvt, State.mapSelf_self]
  by_cases hxy : y = x
  · subst hxy
    rw [Apic.withLvt_lvt]
    exact and_and_not_self v (lvtWr y)
  · rw [Apic.withLvt_lvt_of_ne _ hxy]
    exact h y

theorem storeLvt_steady (x : LvtId) (v : W32) (s : State) : Steady s (storeLvt x v s) where
  others := rfl
  hw := Apic.withLvt_hw _ _ _
  base := Apic.withLvt_base _ _ _
  xapicId := Apic.withLvt_xapicId _ _ _
  ldr := Apic.withLvt_ldr _ _ _
  vectors hv hlogic :=
    (hv ((storeLvt_staysInUnit x v s).hw ▸ hlogic)).congr (fun h => Apic.mode_congr (Apic.withLvt_base _ _ _) ▸ h)
      (Apic.withLvt_irr _ _ _) (Apic.withLvt_isr _ _ _) (Apic.withLvt_tmr _ _ _)
  reserved hr := by
    have hlvt := storeLvt_lvtHeld hr.lvt x v
    cases x <;> exact { hr with lvt := hlvt }
  timerIcr := Apic.withLvt_timerIcr _ _ _
  count := Apic.withLvt_count _ _ _
  running := Apic.withLvt_running _ _ _

theorem lowHalf_and_of_icr {icr : W64} {p : Params} (h : icr &&& rsvdIcr p = 0#64) :
    lowHalf icr &&& p.rsvd.icr = 0#32 :=
  (and_append_eq_zero_iff.1 h).2

theorem storingIcr_steady {s : State} {val : W64} (h : val &&& rsvdIcr s.self.hw = 0#64) :
    Steady s (storingIcr val s) :=
  steady_of_masked rfl rfl fun hr => { hr with icr := h }

theorem storedIcrLow_steady (val : W32) (s : State) : Steady s (storedIcrLow val s) :=
  steady_of_masked rfl rfl fun hr => { hr with icr := append_and_rsvdIcr (and_not_and_self _ _) }

theorem writeIcr_steady {s : State} {val : W64} (h : val &&& rsvdIcr s.self.hw = 0#64) : Steady s (writeIcr val s) := by
  have hstored := storingIcr_steady h
  rcases writeIcr_cases val s with heq | heq <;> rw [heq]
  · exact hstored.trans (logError_steady (by decide) _)
  · exact hstored.trans (sendCommand_steady _ _)

theorem writeIcrLow_steady (val : W32) (s : State) : Steady s (writeIcrLow val s) := by
  have hstored := storedIcrLow_steady val s
  have hdrew := hstored.trans (drew_steady 1 _)
  rcases writeIcrLow_cases val s with heq | heq | heq <;> rw [heq]
  · exact hdrew.trans (logError_steady (by decide) _)
  · exact hdrew.trans (sendIpi_steady _ _)
  · exact hstored.trans (sendCommand_steady _ _)

theorem writeTimerIcr_unitInv (v : W32) {s : State} (hs : UnitInv s.self) : UnitInv (writeTimerIcr v s).self :=
  { hs with
    mode := hs.mode.congr rfl rfl
    vectors := fun hl => (hs.vectors hl).congr id rfl rfl rfl
    ids := hs.ids.congr rfl id rfl rfl
    reserved := { hs.reserved with }
    timer := ⟨BitVec.le_refl v, bne_iff_ne.1⟩ }

/-- In xAPIC mode the invariant says nothing of the ID and the LDR. -/
theorem withIds_unitInv {u : Apic} (hmode : u.mode = .xapic) (id : Byte) (ldr : W32) (hu : UnitInv u) :
    UnitInv { u with xapicId := id, ldr := ldr } :=
  have hnot : u.mode ≠ .x2apic := fun h => nomatch hmode.symm.trans h
  { hu with
    mode := hu.mode.congr rfl rfl
    vectors := fun hl => (hu.vectors hl).congr (fun h => h) rfl rfl rfl
    ids := ⟨fun h => absurd h hnot, fun h => absurd h hnot⟩
    reserved := { hu.reserved with }
    timer := hu.timer.congr rfl rfl rfl }

theorem Effect.unitInv {s t : State} (h : Effect s t) (hs : UnitInv s.self) : UnitInv t.self := by
  cases h with
  | tpr v => exact Steady.unitInv (s := s) (steady_of_port rfl rfl) hs
  | svr h => exact Steady.unitInv (s := s) (steady_of_masked rfl rfl fun hr => { hr with svr := h }) hs
  | esr =>
    exact Steady.unitInv (s := s) (steady_of_masked rfl rfl fun hr =>
      { hr with esr := hr.esrPending, esrPending := BitVec.zero_and }) hs
  | eoi => exact (eoi_steady s).unitInv hs
  | lvt x v => exact (storeLvt_steady x v s).unitInv hs
  | icr h => exact (writeIcr_steady h).unitInv hs
  | icrLow val => exact (writeIcrLow_steady val s).unitInv hs
  | icrHigh val =>
    exact Steady.unitInv (s := s) (steady_of_masked rfl rfl fun hr =>
      { hr with icr := append_and_rsvdIcr (lowHalf_and_of_icr hr.icr) }) hs
  | timerIcr v => exact writeTimerIcr_unitInv v hs
  | timerDcr h => exact Steady.unitInv (s := s) (steady_of_masked rfl rfl fun hr => { hr with timerDcr := h }) hs
  | selfIpi vec => exact (sendCommand_steady _ s).unitInv hs
  | xapicId h id => exact withIds_unitInv h id s.self.ldr hs
  | ldr h v => exact withIds_unitInv h s.self.xapicId v hs
  | dfr v =>
    exact Steady.unitInv (s := s) (steady_of_masked rfl rfl fun hr => { hr with dfr := or_and_self v dfrOnes }) hs
  | illegal => exact (logError_steady (by decide) s).unitInv hs

/-! ### The write of IA32_APIC_BASE -/

/-- The page of a value that fits in MAXPHYADDR bits fits there. -/
theorem page_fits {val : W64} {n : Nat} (h : val.toNat < 2 ^ n) :
    (val.extractLsb' 12 52 ++ 0#12) &&& ~~~(lowMask 64 n) = 0#64 := by
  refine and_not_lowMask_eq_zero_iff.2 (Nat.lt_of_le_of_lt ?_ h)
  rw [toNat_append_add, BitVec.extractLsb'_toNat, Nat.shiftRight_eq_div_pow, BitVec.toNat_ofNat]
  omega

/-- The fields that a write without a fault stores meet the invariant of the mode. -/
theorem storeBase_modeInv {val : W64} {u : Apic} (hbits : val &&& rsvdApicBase u.hw = 0#64)
    (hlegal : baseWriteFaults val u = false) (hu : ModeInv u) : ModeInv (storeBase val u) := by
  have hnone := (not_congr baseWriteFaults_iff).1 (Bool.eq_false_iff.1 hlegal)
  refine ⟨fun hinvalid => ?_, hu.bsp, fun hextd => ?_, ?_⟩
  · exact hnone (.inr (.inl (modeOf_eq_invalid_iff.1 hinvalid)))
  · by_contra hsupport
    exact hnone (.inl ⟨hextd, Bool.eq_false_iff.2 hsupport⟩)
  · exact page_fits (and_rsvdApicBase_eq_zero_iff.1 hbits).2.2

theorem enterX2apic_unitInv {s : State} {val : W64} (hmode : ModeInv (storeBase val s.self))
    (hx2apic : (storeBase val s.self).mode = .x2apic) (hs : UnitInv s.self) :
    UnitInv (enterX2apic (s.mapSelf (storeBase val))).self where
  hw := hs.hw
  mode := hmode.congr rfl rfl
  vectors hl := (hs.vectors hl).congr (fun hoff => nomatch hx2apic.symm.trans hoff) rfl rfl rfl
  ids := ⟨fun _ => rfl, fun _ => rfl⟩
  reserved := { hs.reserved with icr := append_and_rsvdIcr (lowHalf_and_of_icr hs.reserved.icr) }
  timer := hs.timer.congr rfl rfl rfl

/-- The registers that a transition to or from Disabled forgets. -/
theorem forgetRegisters_vectorInv (n : Nat) (u : Apic) : VectorInv (forgetRegisters n u) :=
  ⟨noLowVector_zero, noLowVector_zero, noLowVector_zero, fun _ => ⟨rfl, rfl, rfl⟩⟩

theorem enterXapic_unitInv {s : State} {val : W64} (hmode : ModeInv (storeBase val s.self))
    (hxapic : (storeBase val s.self).mode = .xapic) (hs : UnitInv s.self) :
    UnitInv (enterXapic (s.mapSelf (storeBase val))).self where
  hw := hs.hw
  mode := hmode.congr rfl rfl
  vectors _ := (forgetRegisters_vectorInv s.draws (storeBase val s.self)).congr id rfl rfl rfl
  ids := ⟨fun h => (nomatch hxapic.symm.trans h), fun h => (nomatch hxapic.symm.trans h)⟩
  reserved := { forgetRegisters_reservedInv (u := storeBase val s.self) (hs.reserved.lvt .cmci) s.draws with }
  timer := (forgetRegisters_timerInv s.draws (storeBase val s.self)).congr rfl rfl rfl

theorem enterDisabled_unitInv {s : State} {val : W64} (hmode : ModeInv (storeBase val s.self))
    (hoff : (storeBase val s.self).mode = .disabled) (hs : UnitInv s.self) :
    UnitInv (enterDisabled (s.mapSelf (storeBase val))).self where
  hw := hs.hw
  mode := hmode.congr rfl rfl
  vectors _ := forgetRegisters_vectorInv s.draws (storeBase val s.self)
  ids := ⟨fun h => (nomatch hoff.symm.trans h), fun h => (nomatch hoff.symm.trans h)⟩
  reserved := forgetRegisters_reservedInv (u := storeBase val s.self) (hs.reserved.lvt .cmci) s.draws
  timer := forgetRegisters_timerInv s.draws (storeBase val s.self)

theorem storeBase_unitInv {val : W64} {u : Apic} (hmode : ModeInv (storeBase val u))
    (hsame : (storeBase val u).mode = u.mode) (hu : UnitInv u) : UnitInv (storeBase val u) where
  hw := hu.hw
  mode := hmode
  vectors hl := (hu.vectors hl).congr (fun h => hsame ▸ h) rfl rfl rfl
  ids := hu.ids.congr rfl (fun h => hsame ▸ h) rfl rfl
  reserved := { hu.reserved with }
  timer := hu.timer.congr rfl rfl rfl

theorem transition_of_change {cur new : Mode} (h : new ≠ cur) (s : State) :
    transition cur new s =
      match new with
      | .x2apic => enterX2apic s
      | .xapic => enterXapic s
      | .disabled => enterDisabled s
      | .invalid => s := by
  unfold transition
  exact (if_neg h).trans (by cases new <;> rfl)

theorem writeBase_unitInv {s : State} {val : W64} (hbits : val &&& rsvdApicBase s.self.hw = 0#64)
    (hlegal : baseWriteFaults val s.self = false) (hs : UnitInv s.self) : UnitInv (writeBase val s).self := by
  have hmode := storeBase_modeInv hbits hlegal hs.mode
  by_cases hsame : (storeBase val s.self).mode = s.self.mode
  · have hwrite : writeBase val s = s.mapSelf (storeBase val) := if_pos hsame
    rw [hwrite]
    exact storeBase_unitInv hmode hsame hs
  · change UnitInv (transition s.self.mode (storeBase val s.self).mode (s.mapSelf (storeBase val))).self
    cases hnew : (storeBase val s.self).mode with
    | x2apic =>
      rw [transition_of_change (hnew ▸ hsame)]
      exact enterX2apic_unitInv hmode hnew hs
    | xapic =>
      rw [transition_of_change (hnew ▸ hsame)]
      exact enterXapic_unitInv hmode hnew hs
    | disabled =>
      rw [transition_of_change (hnew ▸ hsame)]
      exact enterDisabled_unitInv hmode hnew hs
    | invalid => exact absurd hnew hmode.mode

/-! ### Operations -/

/-- From `s` to `t` nothing changes but the acting unit, which keeps its parameters and its invariant. -/
structure KeepsInv (s t : State) : Prop where
  others : t.others = s.others
  hw : t.self.hw = s.self.hw
  inv : UnitInv s.self → UnitInv t.self

theorem Steady.keepsInv {s t : State} (h : Steady s t) : KeepsInv s t := ⟨h.others, h.hw, h.unitInv⟩

theorem KeepsInv.trans {s t u : State} (h : KeepsInv s t) (k : KeepsInv t u) : KeepsInv s u :=
  ⟨k.others.trans h.others, k.hw.trans h.hw, fun hs => k.inv (h.inv hs)⟩

theorem loadResults_steady (s : State) : Steady s (loadResults s) := by
  unfold loadResults
  split <;> exact steady_of_port rfl rfl

theorem Completes.unitInv {s t : State} {base : Prop} (h : Completes s base t) (hs : UnitInv s.self) :
    UnitInv t.self := by
  cases h with
  | gp => exact (answered_steady _ s).unitInv hs
  | answered n _ => exact ((drew_steady n s).answered _).unitInv hs
  | loaded n _ => exact (((drew_steady n s).answered _).trans (loadResults_steady _)).unitInv hs
  | illegalLoad => exact (((logError_steady (by decide) s).trans (drew_steady 1 _)).answered _).unitInv hs
  | effect h => exact (answered_steady _ _).unitInv (h.unitInv hs)
  | baseWrite _ hbits hlegal => exact (answered_steady _ _).unitInv (writeBase_unitInv hbits hlegal hs)

theorem Completes.keepsInv {s t : State} {base : Prop} (h : Completes s base t) : KeepsInv s t :=
  ⟨h.staysInUnit.others, h.staysInUnit.hw, h.unitInv⟩

theorem runOutside_keepsInv {e : DecodeError} {a : Access} {s t : State} (h : runOutside e a s = .next t) :
    KeepsInv s t := by
  cases a with
  | msrR addr => exact (rdmsrOutside_completes (base := False) h).keepsInv
  | msrW addr val => exact (wrmsrOutside_completes (base := False) h).keepsInv
  | cpuid leaf sub => exact (cpuidOutside_completes (base := False) h).keepsInv
  | mmioR pa width => cases h
  | mmioW pa width val => cases h
  | x86 bytes => cases h

theorem runAccess_keepsInv {cpl : BitVec 2} {a : Access} {s t : State} (h : runAccess cpl a s = .next t) :
    KeepsInv s t := by
  have hissue : Steady s (atIssue cpl s) := steady_of_port rfl rfl
  unfold runAccess at h
  split at h
  · exact hissue.keepsInv.trans (exec_completes h).keepsInv
  · exact hissue.keepsInv.trans (runOutside_keepsInv h)

/-! ### RESET and INIT -/

theorem resetPage_fits {p : Params} (h : p.wf = true) :
    (apicBaseReset ++ 0#12) &&& ~~~(lowMask 64 p.maxPhyAddr) = 0#64 := by
  have hwidth : 32 ≤ p.maxPhyAddr := by
    simp only [Params.wf, Bool.and_eq_true, decide_eq_true_eq] at h
    omega
  exact and_not_lowMask_eq_zero_iff.2 (Nat.lt_of_lt_of_le (by decide) (Nat.pow_le_pow_right (by decide) hwidth))

theorem resetSvr_masked {p : Params} (h : p.wf = true) : 0x000000FF#32 &&& ~~~(svrBitsXapic p) = 0#32 := by
  have hsvr : p.rsvd.svr &&& 0x000000FF#32 = 0#32 := by
    simp only [Params.wf, Bool.and_eq_true, beq_iff_eq] at h
    exact h.1.1.1.2
  refine svrBits_of_reserved (svrBitsXapic_eq p) ?_
  rw [svrRsvd]
  split
  · rw [BitVec.and_comm, hsvr]
  · refine and_or_eq_zero_iff.2 ⟨?_, rfl⟩
    rw [BitVec.and_comm, hsvr]

theorem lvtAtReset_held (x : LvtId) : lvtHeld x lvtAtReset := by cases x <;> rfl

theorem apicAtReset_lvt (p : Params) (esr pending : W64) (x : LvtId) :
    (apicAtReset p esr pending).lvt x = lvtAtReset := by
  cases x <;> rfl

theorem apicAtReset_reservedInv {p : Params} (h : p.wf = true) (esr pending : W64) :
    ReservedInv (apicAtReset p esr pending) where
  svr := resetSvr_masked h
  esr := and_and_not_self _ _
  esrPending := and_and_not_self _ _
  icr := BitVec.zero_and
  timerDcr := BitVec.zero_and
  dfr := show 0xFFFFFFFF#32 &&& dfrOnes = dfrOnes from rfl
  lvt x := by
    rw [apicAtReset_lvt]
    exact lvtAtReset_held x

theorem apicAtReset_vectorInv (p : Params) (esr pending : W64) : VectorInv (apicAtReset p esr pending) :=
  ⟨noLowVector_zero, noLowVector_zero, noLowVector_zero, fun _ => ⟨rfl, rfl, rfl⟩⟩

theorem apicAtReset_timerInv (p : Params) (esr pending : W64) : TimerInv (apicAtReset p esr pending) :=
  ⟨BitVec.le_refl _, fun h => (nomatch h)⟩

theorem apicAtReset_unitInv {p : Params} (h : p.wf = true) (esr pending : W64) :
    UnitInv (apicAtReset p esr pending) where
  hw := h
  mode := ⟨fun hmode => (nomatch hmode), rfl, fun hextd => (nomatch hextd), resetPage_fits h⟩
  vectors _ := apicAtReset_vectorInv p esr pending
  ids := ⟨fun hmode => (nomatch hmode), fun hmode => (nomatch hmode)⟩
  reserved := apicAtReset_reservedInv h esr pending
  timer := apicAtReset_timerInv p esr pending

theorem initRegisters_unitInv {u : Apic} (hu : UnitInv u) (esr pending : W64) :
    UnitInv (initRegisters esr pending u) where
  hw := hu.hw
  mode := hu.mode.congr rfl rfl
  vectors _ := ⟨noLowVector_zero, noLowVector_zero, noLowVector_zero, fun _ => ⟨rfl, rfl, rfl⟩⟩
  ids := ⟨fun hx => if_pos hx, hu.ids.xapicId⟩
  reserved := { apicAtReset_reservedInv hu.hw esr pending with }
  timer := (apicAtReset_timerInv u.hw esr pending).congr rfl rfl rfl

theorem withOut_unitInv {u : Apic} (hu : UnitInv u) (out : List Output) : UnitInv { u with out := out } :=
  { hu with
    mode := hu.mode.congr rfl rfl
    vectors := fun hl => (hu.vectors hl).congr id rfl rfl rfl
    ids := hu.ids.congr rfl id rfl rfl
    reserved := { hu.reserved with }
    timer := hu.timer.congr rfl rfl rfl }

theorem resetSelf_keepsInv (s : State) : KeepsInv s (resetSelf s) where
  others := rfl
  hw := rfl
  inv hs := withOut_unitInv (apicAtReset_unitInv hs.hw _ _) s.self.out

theorem initSelf_keepsInv (s : State) : KeepsInv s (initSelf s) := by
  by_cases hoff : s.self.mode = .disabled
  · have hself : (initSelf s).self = s.self := if_pos hoff
    exact ⟨rfl, congrArg Apic.hw hself, fun hs => hself ▸ hs⟩
  · have hself : (initSelf s).self = initRegisters (Config.free s.draws) (Config.free (s.draws + 1)) s.self :=
      if_neg hoff
    exact ⟨rfl, (congrArg Apic.hw hself).trans rfl, fun hs => hself ▸ initRegisters_unitInv hs _ _⟩

/-! ### The other agents -/

theorem messageEvent_keepsInv (del : BitVec 3) (vec : Byte) (s : State) : KeepsInv s (messageEvent del vec s) := by
  have hevent : KeepsInv s (coreEvent del vec s) := (emit_steady _ s).keepsInv
  unfold messageEvent
  dsimp only
  split
  · exact hevent.trans (initSelf_keepsInv _)
  · exact hevent

theorem arriveMessage_keepsInv (o : Origin) (del : BitVec 3) (vec : Byte) (trig : Bool) (s : State) :
    KeepsInv s (arriveMessage o del vec trig s) := by
  unfold arriveMessage
  split
  · exact (arrive_steady o vec trig s).keepsInv
  split
  · split
    · exact ((drew_steady 1 s).trans (arrive_steady o vec trig _)).keepsInv
    · exact (drew_steady 1 s).keepsInv
  · exact messageEvent_keepsInv del vec s

/-- A timer at 0 whose TIMER_ICR is not 0 meets its invariant once it has reloaded or stopped. -/
theorem timerExpired_timerInv {u : Apic} (hcount : u.count = 0#32) (hicr : u.timerIcr ≠ 0#32) :
    TimerInv (timerExpired u) := by
  unfold timerExpired
  split
  · exact ⟨BitVec.le_refl _, fun _ => hicr⟩
  · refine ⟨?_, fun h => (nomatch h)⟩
    change u.count ≤ u.timerIcr
    bv_omega

/-- A change of the timer's count or run state alone. -/
theorem sound_of_timer (count : W32) (running : Bool) (s : State) :
    Sound s (s.mapSelf fun u => { u with count := count, running := running }) :=
  ⟨rfl, rfl, rfl, rfl, rfl, fun hv hl => (hv hl).congr id rfl rfl rfl, fun hr => { hr with }⟩

theorem timerExpired_sound (s : State) : Sound s (s.mapSelf timerExpired) := by
  unfold State.mapSelf timerExpired
  split
  · exact sound_of_timer s.self.timerIcr s.self.running s
  · exact sound_of_timer s.self.count false s

/-- The state in which a tick has counted down. -/
def countedDown (s : State) : State := s.mapSelf fun u => { u with count := u.count - 1#32 }

theorem countedDown_sound (s : State) : Sound s (countedDown s) := sound_of_timer (s.self.count - 1#32) s.self.running s

theorem timerTick_keepsInv (s : State) : KeepsInv s (timerTick s) := by
  by_cases hmoves : s.self.running = true ∧ s.self.count ≠ 0#32
  case neg =>
    rw [timerTick, if_neg (by rwa [Bool.and_eq_true, bne_iff_ne])]
    exact (Steady.refl s).keepsInv
  case pos =>
    obtain ⟨hrunning, hcount⟩ := hmoves
    rw [timerTick_of_running hrunning hcount]
    have hcounted := countedDown_sound s
    change KeepsInv s (if (countedDown s).self.count = 0#32 then (fireLvt .timer (countedDown s)).mapSelf timerExpired
      else countedDown s)
    split
    case isTrue hlast =>
      have hfired := fireLvt_steady .timer (countedDown s)
      have hsound := (hcounted.trans hfired.toSound).trans (timerExpired_sound _)
      refine ⟨hsound.others, hsound.hw,
        fun hs => hsound.unitInv (timerExpired_timerInv (hfired.count.trans hlast) ?_) hs⟩
      have hbounded := hs.timer.bounded
      rw [hfired.timerIcr]
      change s.self.timerIcr ≠ 0#32
      bv_omega
    case isFalse hleft =>
      refine ⟨rfl, rfl, fun hs => hcounted.unitInv ⟨?_, fun _ => hleft⟩ hs⟩
      have hbounded := hs.timer.bounded
      change s.self.count - 1#32 ≤ s.self.timerIcr
      bv_omega

theorem timerClock_keepsInv (s : State) : KeepsInv s (timerClock s) := by
  have hfrac : ∀ n, Steady s (s.mapSelf fun u => { u with frac := n }) := fun _ => steady_of_port rfl rfl
  unfold timerClock
  split
  · split
    · exact (hfrac 0).keepsInv.trans (timerTick_keepsInv _)
    · exact (hfrac (s.self.frac + 1)).keepsInv
  · exact (Steady.refl s).keepsInv

theorem runCore_steady (eax ebx ecx edx : W32) (intEnabled : Bool) (s : State) :
    Steady s (runCore eax ebx ecx edx intEnabled s) :=
  steady_of_port rfl rfl

theorem sampleOffer_steady (s : State) : Steady s (sampleOffer s) := steady_of_port rfl rfl

theorem takeInterrupt_keepsInv {s t : State} (h : takeInterrupt s = .next t) : KeepsInv s t := by
  unfold takeInterrupt at h
  split at h
  · split at h
    · rename_i v hoffered
      cases h
      exact (dispatch_steady hoffered).keepsInv
    · split at h
      · cases h
        exact Steady.keepsInv (s := s) (steady_of_port rfl rfl)
      · cases h
  · cases h

theorem fireSource_keepsInv {x : LocalSource} {s t : State} (h : fireSource x s = .next t) : KeepsInv s t := by
  unfold fireSource at h
  split at h
  · cases h
    exact (fireLvt_steady x.entry s).keepsInv
  · cases h

/-! ### The platform -/

theorem KeepsInv.platformInv {s t : State} (h : KeepsInv s t) (hs : PlatformInv s) : PlatformInv t where
  self := h.inv hs.self
  others := by
    rw [h.others]
    exact hs.others
  unique := by
    rw [hardwareIds, h.others, List.map_cons, h.hw]
    exact hs.unique

/-- The units with the acting one in the place of the `k`-th, which acts, are the same ones. -/
theorem units_of_swap {s : State} {k : Nat} {u : Apic} (h : s.others[k]? = some u) :
    (u :: s.others.set k s.self).Perm (s.self :: s.others) := by
  obtain ⟨hk, rfl⟩ := List.getElem?_eq_some_iff.1 h
  calc
    (s.others[k] :: s.others.set k s.self).Perm (s.others[k] :: s.self :: s.others.eraseIdx k) :=
      (List.set_perm_cons_eraseIdx hk s.self).cons _
    List.Perm _ (s.self :: s.others[k] :: s.others.eraseIdx k) := List.Perm.swap _ _ _
    List.Perm _ (s.self :: s.others) := (List.getElem_cons_eraseIdx_perm hk).cons _

theorem swapWith_platformInv (k : Nat) {s : State} (hs : PlatformInv s) : PlatformInv (swapWith k s) := by
  cases hk : s.others[k]? with
  | none =>
    rw [swapWith, hk]
    exact hs
  | some u =>
    rw [swapWith_of_get hk]
    have hunits := units_of_swap hk
    have hall : ∀ v ∈ u :: s.others.set k s.self, UnitInv v := fun v hv => by
      rcases List.mem_cons.1 (hunits.mem_iff.1 hv) with rfl | hold
      · exact hs.self
      · exact hs.others v hold
    have hids := hunits.map fun v : Apic => v.hw.x2apicIdHw
    exact ⟨hall u List.mem_cons_self, fun v hv => hall v (List.mem_cons_of_mem _ hv), hids.nodup_iff.2 hs.unique⟩

theorem atUnit_platformInv {f : State → State} (hf : ∀ s, KeepsInv s (f s)) (id : W32) {s : State}
    (hs : PlatformInv s) :
    PlatformInv (atUnit id f s) := by
  unfold atUnit
  split
  · exact (hf s).platformInv hs
  split
  · exact hs
  · exact swapWith_platformInv _ ((hf _).platformInv (swapWith_platformInv _ hs))

theorem deliver_platformInv {k : Nat} {s t : State} (h : deliver k s = .next t) (hs : PlatformInv s) :
    PlatformInv t := by
  unfold deliver at h
  split at h
  · cases h
    exact atUnit_platformInv (arriveMessage_keepsInv _ _ _ _) _ ⟨hs.self, hs.others, hs.unique⟩
  · cases h

theorem selectUnit_platformInv {k : Nat} {s t : State} (h : selectUnit k s = .next t) (hs : PlatformInv s) :
    PlatformInv t := by
  unfold selectUnit at h
  split at h
  · cases h
    exact swapWith_platformInv k hs
  · cases h

theorem runEvent_platformInv {e : Event} {s t : State} (h : runEvent e s = .next t) (hs : PlatformInv s) :
    PlatformInv t := by
  cases e with
  | access cpl a => exact (runAccess_keepsInv h).platformInv hs
  | take => exact (takeInterrupt_keepsInv h).platformInv hs
  | source x => exact (fireSource_keepsInv h).platformInv hs
  | deliver k => exact deliver_platformInv h hs
  | select k => exact selectUnit_platformInv h hs
  | coreRuns a b c d i =>
    cases h
    exact (runCore_steady a b c d i s).keepsInv.platformInv hs
  | sample =>
    cases h
    exact (sampleOffer_steady s).keepsInv.platformInv hs
  | deviceMessage del vec level =>
    cases h
    exact (arriveMessage_keepsInv _ del vec level s).platformInv hs
  | tick =>
    cases h
    exact (timerTick_keepsInv s).platformInv hs
  | clock =>
    cases h
    exact (timerClock_keepsInv s).platformInv hs
  | resetUnit =>
    cases h
    exact (resetSelf_keepsInv s).platformInv hs
  | initUnit =>
    cases h
    exact (initSelf_keepsInv s).platformInv hs

theorem offered_of_dueBefore {e : Event} {u : Apic} {v : Byte} (h : dueBefore e u = some v) : offered u = some v := by
  unfold dueBefore definiteOffer at h
  split at h
  · split at h
    · exact h
    · cases h
  · cases h

/-- Settles O20: a step takes the interrupt that is due, or runs the event at the head of the schedule. -/
theorem stepKeepsTheInvariant : Obligations.StepKeepsTheInvariant := by
  intro s t hs ht
  unfold step at ht
  split at ht
  · cases ht
    exact hs
  · unfold stepEvent at ht
    split at ht
    · rename_i v hdue
      cases ht
      exact (dispatch_steady (offered_of_dueBefore hdue)).keepsInv.platformInv hs
    · exact runEvent_platformInv ht ⟨hs.self, hs.others, hs.unique⟩

end Sys2Proof.Machine
end

section
/-! PROOFS. O21: the state after RESET. The parameters are brought within their constraints (Config.lean): the topology
table by `risingLevels` and `wideLast`, the IDs by `assignableId`, the filter and `dedup`. -/

namespace Sys2Proof.Machine

open Sys2Proof.Statements

/-! ### The topology table -/

/-- The constraint on the type of one level (44_cpuid.md R322). -/
abbrev legalType (l : CpuidLevel) : Prop := l.kind = 1#8 ∨ (l.kind = 2#8 ∧ l.number ≠ 0#32)

theorem typesAreLegal_iff {ls : List CpuidLevel} : typesAreLegal ls = true ↔ ∀ l ∈ ls, legalType l := by
  simp only [typesAreLegal, List.all_eq_true, Bool.or_eq_true, Bool.and_eq_true, beq_iff_eq, bne_iff_ne, legalType]

theorem levelsRise_cons {a : CpuidLevel} {ls : List CpuidLevel}
    (h : ∀ b ∈ ls, a.number < b.number ∧ a.shift ≤ b.shift) (hls : levelsRise ls = true) :
    levelsRise (a :: ls) = true := by
  cases ls with
  | nil => rfl
  | cons b ls =>
    obtain ⟨hnumber, hshift⟩ := h b List.mem_cons_self
    rw [levelsRise, decide_eq_true hnumber, decide_eq_true hshift, hls]
    rfl

theorem levelsRise_tail {a b : CpuidLevel} {ls : List CpuidLevel} (h : levelsRise (a :: b :: ls) = true) :
    (a.number < b.number ∧ a.shift ≤ b.shift) ∧ levelsRise (b :: ls) = true := by
  simpa only [levelsRise, Bool.and_eq_true, decide_eq_true_eq] using h

/-- What each level of `risingLevels` keeps to. -/
theorem risingLevels_mem {least : Nat} {shift : BitVec 5} {ls : List CpuidLevel} {l : CpuidLevel}
    (h : l ∈ Config.risingLevels least shift ls) : least ≤ l.number.toNat ∧ shift ≤ l.shift ∧ legalType l := by
  induction ls generalizing least shift with
  | nil => cases h
  | cons a ls ih =>
    rw [Config.risingLevels] at h
    split at h
    case isTrue => exact ih h
    case isFalse hleast =>
      have hcount : shift ≤ (if a.shift < shift then shift else a.shift) := by
        split
        · exact BitVec.le_refl shift
        · bv_omega
      rcases List.mem_cons.1 h with rfl | hrest
      · refine ⟨by dsimp only; omega, hcount, ?_⟩
        by_cases hone : a.number = 0#32 ∨ a.kind = 1#8
        · exact .inl (if_pos hone)
        · exact .inr ⟨if_neg hone, (not_or.1 hone).1⟩
      · obtain ⟨hnumber, hshift, hlegal⟩ := ih hrest
        exact ⟨by omega, BitVec.le_trans hcount hshift, hlegal⟩

theorem levelsRise_risingLevels (least : Nat) (shift : BitVec 5) (ls : List CpuidLevel) :
    levelsRise (Config.risingLevels least shift ls) = true := by
  induction ls generalizing least shift with
  | nil => rfl
  | cons a ls ih =>
    rw [Config.risingLevels]
    split
    · exact ih _ _
    · refine levelsRise_cons (fun b hb => ?_) (ih _ _)
      obtain ⟨hnumber, hshift, -⟩ := risingLevels_mem hb
      exact ⟨BitVec.lt_def.2 hnumber, hshift⟩

/-- `wideLast` keeps every level but for a shift count that it may raise. -/
theorem wideLast_mem {ls : List CpuidLevel} {l : CpuidLevel} (h : l ∈ Config.wideLast ls) :
    ∃ l' ∈ ls, l.number = l'.number ∧ l.kind = l'.kind := by
  induction ls using Config.wideLast.induct with
  | case1 => cases h
  | case2 a =>
    cases List.mem_singleton.1 h
    exact ⟨a, List.mem_singleton_self a, rfl, rfl⟩
  | case3 a b ls ih =>
    rcases List.mem_cons.1 h with rfl | hrest
    · exact ⟨l, List.mem_cons_self, rfl, rfl⟩
    · obtain ⟨l', hl', hsame⟩ := ih hrest
      exact ⟨l', List.mem_cons_of_mem a hl', hsame⟩

theorem wideLast_cons (b : CpuidLevel) (ls : List CpuidLevel) :
    ∃ b' ls', Config.wideLast (b :: ls) = b' :: ls' ∧ b'.number = b.number ∧ b.shift ≤ b'.shift := by
  cases ls with
  | nil =>
    refine ⟨_, _, rfl, rfl, ?_⟩
    dsimp only
    split
    · bv_omega
    · exact BitVec.le_refl _
  | cons c ls => exact ⟨b, _, rfl, rfl, BitVec.le_refl _⟩

theorem levelsRise_wideLast {ls : List CpuidLevel} (h : levelsRise ls = true) :
    levelsRise (Config.wideLast ls) = true := by
  induction ls using Config.wideLast.induct with
  | case1 => rfl
  | case2 => rfl
  | case3 a b ls ih =>
    obtain ⟨⟨hnumber, hshift⟩, hrest⟩ := levelsRise_tail h
    have hih := ih hrest
    obtain ⟨b', ls', heq, hnumber', hshift'⟩ := wideLast_cons b ls
    rw [Config.wideLast, heq, levelsRise, ← heq, hih, decide_eq_true (hnumber' ▸ hnumber),
      decide_eq_true (BitVec.le_trans hshift hshift')]
    rfl

theorem lastIsWide_wideLast (ls : List CpuidLevel) : lastIsWide (Config.wideLast ls) = true := by
  induction ls using Config.wideLast.induct with
  | case1 => rfl
  | case2 a =>
    refine decide_eq_true ?_
    dsimp only
    split
    · exact BitVec.le_refl _
    · bv_omega
  | case3 a b ls ih =>
    obtain ⟨b', ls', heq, -, -⟩ := wideLast_cons b ls
    rw [Config.wideLast, heq, lastIsWide, ← heq, ih]

theorem typesAreLegal_wideLast {ls : List CpuidLevel} (h : ∀ l ∈ ls, legalType l) :
    typesAreLegal (Config.wideLast ls) = true :=
  typesAreLegal_iff.2 fun l hl => by
    obtain ⟨l', hl', hnumber, hkind⟩ := wideLast_mem hl
    rw [legalType, hnumber, hkind]
    exact h l' hl'

/-! ### The parameters -/

theorem toNat_lt_of_ne_ones {id : W32} (h : id ≠ 0xFFFFFFFF#32) : id.toNat < 2 ^ 32 - 1 := by bv_omega

theorem unitParams_wf {id : W32} (h : id ≠ 0xFFFFFFFF#32) (n : Nat) : (Config.unitParams n id).wf = true := by
  have hrise := levelsRise_wideLast (levelsRise_risingLevels 0 0#5 (Config.cpuidLevelsRaw n))
  have htypes := typesAreLegal_wideLast fun l (hl : l ∈ Config.risingLevels 0 0#5 (Config.cpuidLevelsRaw n)) =>
    (risingLevels_mem hl).2.2
  have hwide := lastIsWide_wideLast (Config.risingLevels 0 0#5 (Config.cpuidLevelsRaw n))
  have hsvr : (Config.defaultRsvd.svr &&& 0x000000FF#32 == 0#32) = true := by decide
  have hphys : 32 + Config.phyAddrAbove32 % 33 ≤ 64 := by omega
  simp only [Params.wf, Bool.and_eq_true, decide_eq_true_eq]
  exact ⟨⟨⟨⟨⟨⟨⟨⟨(by decide : 8 ≤ 32), Nat.le_refl 32⟩, toNat_lt_of_ne_ones h⟩, Nat.le_add_right _ _⟩, hphys⟩, hsvr⟩,
    hrise⟩, htypes⟩, hwide⟩

theorem firstId_ne_ones : Config.firstId ≠ 0xFFFFFFFF#32 := by
  unfold Config.firstId Config.assignableId
  split
  · decide
  · assumption

theorem mem_otherIds {id : W32} (h : id ∈ Config.otherIds) : id ≠ 0xFFFFFFFF#32 ∧ id ≠ Config.firstId := by
  have hfilter := (List.mem_filter.1 (List.mem_dedup.1 h)).2
  simpa only [Bool.and_eq_true, bne_iff_ne] using hfilter

/-! ### The platform after RESET -/

theorem unitAtReset_unitInv {id : W32} (h : id ≠ 0xFFFFFFFF#32) (n : Nat) : UnitInv (unitAtReset n id) :=
  apicAtReset_unitInv (unitParams_wf h n) _ _

theorem unitsAtReset_unitInv {u : Apic} (n : Nat) {ids : List W32} (hids : ∀ id ∈ ids, id ≠ 0xFFFFFFFF#32)
    (h : u ∈ unitsAtReset n ids) : UnitInv u := by
  induction ids generalizing n with
  | nil => cases h
  | cons id ids ih =>
    rcases List.mem_cons.1 h with rfl | hrest
    · exact unitAtReset_unitInv (hids id List.mem_cons_self) n
    · exact ih (n + 1) (fun id' hid => hids id' (List.mem_cons_of_mem _ hid)) hrest

theorem unitsAtReset_ids (n : Nat) (ids : List W32) : (unitsAtReset n ids).map (fun u => u.hw.x2apicIdHw) = ids := by
  induction ids generalizing n with
  | nil => rfl
  | cons id ids ih => rw [unitsAtReset, List.map_cons, ih]; rfl

theorem hardwareIds_reset : hardwareIds State.reset = Config.firstId :: Config.otherIds :=
  congrArg (Config.firstId :: ·) (unitsAtReset_ids 1 Config.otherIds)

/-- Settles O21: every unit is `apicAtReset` of parameters within their constraints. -/
theorem resetMeetsTheInvariant : Obligations.ResetMeetsTheInvariant where
  self := unitAtReset_unitInv firstId_ne_ones 0
  others _ hu := unitsAtReset_unitInv 1 (fun _ hid => (mem_otherIds hid).1) hu
  unique := by
    rw [hardwareIds_reset]
    exact List.nodup_cons.2 ⟨fun h => (mem_otherIds h).2 rfl, List.nodup_dedup _⟩

end Sys2Proof.Machine
end
